-- ==== Sys2Proof/Word.lean ====
section
/-! DEFINITION. The words of the LD62: host numbers, assignable addresses, identifiers, bytes. -/

namespace Sys2Proof

/-- One byte of a host frame, of an item or of a burst. -/
abbrev Byte := BitVec 8

/-- A module's 48-bit unique identifier (R38). -/
abbrev Uid := BitVec 48

/-- A host-chosen request tag, 0 to 255. -/
abbrev Tag := BitVec 8

/-- One of the four host ports H0 to H3. -/
abbrev HostId := Fin 4

/-- One of the 62 assignable addresses (R1): the index `a` stands for address `a + 1`. -/
abbrev Addr := Fin 62

/-- The address, 1 to 62, that an index stands for. -/
def addrNum (a : Addr) : Nat := a.val + 1

/-- The address as the 6-bit field of a token. -/
def addr6 (a : Addr) : BitVec 6 := BitVec.ofNat 6 (addrNum a)

/-- The address as a byte of a frame or an item. -/
def addr8 (a : Addr) : Byte := BitVec.ofNat 8 (addrNum a)

/-- The assignable address that a number names: none for 0 and for numbers above 62 (R5). -/
def addrOfNat (n : Nat) : Option Addr :=
  if h : 1 ≤ n ∧ n ≤ 62 then some ⟨n - 1, by omega⟩ else none

/-- The 62 addresses in ascending order. -/
def allAddrs : List Addr := List.finRange 62

/-- The four hosts in ascending order. -/
def allHosts : List HostId := List.finRange 4

end Sys2Proof
end

