-- ==== Sys2Proof/Config.lean ====
section
/-! DEFINITION. What the part fixes: capacities, reserved identifiers, line intervals, the default notice
mask; and the free values the manual leaves unstated. -/

namespace Sys2Proof.Config

/-- The recall list holds at most 24 records (R12). -/
def recallCapacity : Nat := 24

/-- The request queue and the owed set hold at most 8 (R151, R153). -/
def owedCapacity : Nat := 8

/-- Items on the outbound queue plus owed tags never exceed 24 (R157). -/
def outboundCapacity : Nat := 24

/-- The longest request body (R152, R153). -/
def maxBody : Nat := 68

/-- LIST reports at most 8 records (R21). -/
def listLimit : Nat := 8

/-- RECALLS reports at most 12 records (R23). -/
def recallsLimit : Nat := 12

/-- The all-ones identifier: the result of a contention nobody joined (R2, R53). -/
def uidAllOnes : Uid := BitVec.allOnes 48

/-- The all-zeros identifier: the result of a fouled contention (R2, R54). -/
def uidAllZeros : Uid := 0

/-- The third consecutive failure of one uid ends the search for it (R64). -/
def failureLimit : Nat := 3

/-- The default notice mask, bits 0, 1, 3, 4, 7 and 8 (R146, Section 12.2). -/
def defaultMask : BitVec 9 := 0x19B

/-- The gap after an attempt, in bit times (R29). -/
def gapBits : Nat := 8

/-- The gap after a READ whose answer was garbled (R29). -/
def longGapBits : Nat := 560

/-- A deferred start bit is sent after this many released bit times in a row (R29). -/
def deferralHigh : Nat := 2

/-- A deferred start bit is sent after this many low bit times in a row (R29). -/
def deferralLow : Nat := 24

/-- The low bit times after which a low of FDA is recognised as a join pulse (R30). -/
def joinRecognition : Nat := 10

/-- Bit times of a command token (R34). -/
def commandTokenBits : Nat := 38

/-- Bit times of an answer token or receipt (R35). -/
def answerTokenBits : Nat := 35

/-- Bit times from the end of SEEK to the end of contention slot 48 (R41). -/
def contentionBits : Nat := 51

/-- Bit times of the reset hold (R32). -/
def holdBits : Nat := 64

/-- The wait after the hold ends at the earliest after 8 released bit times (R32). -/
def quietBits : Nat := 8

/-- The wait after the hold ends at the latest after 600 bit times (R32). -/
def holdWaitLimit : Nat := 600

/-- Released bit times between the answer and the start bit of a WRITE burst, which falls in bit time 4 (R37). -/
def writeBurstLead : Nat := 3

/-- Bit times of a burst of `n` bytes (R37). -/
def burstBits (n : Nat) : Nat := 8 * n + 18

/-- FREE VALUE. A reply to CLAIM, RENEW, RELEASE or REVOKE begins with the handle the request carried
(R121, Section 12.3); where the body was too short to carry one, the manual states no value for the missing
byte. One fresh value for each index. See notes/assumptions/5.md. -/
opaque missingHandleByte : Nat → Byte

end Sys2Proof.Config
end

