-- ==== Sys2Proof/Syntax.lean ====
section
/-! DEFINITION. The commands of the LD62, one constructor for each row of spec/opcode_table.json, in the
table's order. A command is one whole event that reaches the controller: a pin edge, an exchange, a
dispatcher's take, an event of the module line, or the expiry of a millisecond timer. -/

namespace Sys2Proof

/-- The events of the LD62. Operands carry only what comes from outside the controller. -/
inductive Instr where
  /-- PORn falls (R169). -/
  | powerOnResetAsserted
  /-- PORn rises; bit n of `straps` is set when strap MGTn gives host n the manage permission (R155, R169). -/
  | powerOnResetEnd (straps : BitVec 4)
  /-- A REQUEST frame, taken at the last bit of its check byte; the body length field is `body.length` (R153, R173). -/
  | request (h : HostId) (code tag : Byte) (body : List Byte) (check : Byte)
  /-- A FETCH, taken at its last bit; `beganEmpty` when the outbound queue was empty as the exchange began (R158). -/
  | fetch (h : HostId) (beganEmpty : Bool)
  /-- A CANCEL frame, taken at the last bit of its check byte (R161). -/
  | cancel (h : HostId) (tag check : Byte)
  /-- A HOST_RESET exchange (R163). -/
  | hostReset (h : HostId)
  /-- An exchange whose first byte names none of the four exchanges (R152). -/
  | unknownExchange (h : HostId) (first : Byte)
  /-- HRSTn falls (R165). -/
  | hrstnFall (h : HostId)
  /-- HRSTn rises (R165). -/
  | hrstnRise (h : HostId)
  /-- Host `h`'s dispatcher takes a request whose code names no request (R174). -/
  | invalidRequestCode (h : HostId)
  /-- Host `h`'s dispatcher takes LIST (R21). -/
  | list (h : HostId)
  /-- Host `h`'s dispatcher takes LOOKUP (R22). -/
  | lookup (h : HostId)
  /-- Host `h`'s dispatcher takes RECALLS (R23). -/
  | recalls (h : HostId)
  /-- Host `h`'s dispatcher takes FORGET (R24). -/
  | forget (h : HostId)
  /-- Host `h`'s dispatcher takes CLAIM (R122). -/
  | claim (h : HostId)
  /-- Host `h`'s dispatcher takes RENEW (R125). -/
  | renew (h : HostId)
  /-- Host `h`'s dispatcher takes RELEASE (R126). -/
  | release (h : HostId)
  /-- Host `h`'s dispatcher takes REVOKE (R127). -/
  | revoke (h : HostId)
  /-- Host `h`'s dispatcher takes READ (R94, R99). -/
  | read (h : HostId)
  /-- Host `h`'s dispatcher takes WRITE (R94, R101). -/
  | write (h : HostId)
  /-- Host `h`'s dispatcher takes PING (R94, R106). -/
  | ping (h : HostId)
  /-- Host `h`'s dispatcher takes ENUMERATE (R66). -/
  | enumerate (h : HostId)
  /-- Host `h`'s dispatcher takes SUBSCRIBE (R147). -/
  | subscribe (h : HostId)
  /-- Host `h`'s dispatcher takes SETTINGS (R168). -/
  | settings (h : HostId)
  /-- Host `h`'s dispatcher takes a CONFIGURE of the line rate (R167). -/
  | configureLineRate (h : HostId)
  /-- Host `h`'s dispatcher takes a CONFIGURE of the answer window (R167). -/
  | configureAnswerWindow (h : HostId)
  /-- Host `h`'s dispatcher takes a CONFIGURE of the retry limit (R167). -/
  | configureRetryLimit (h : HostId)
  /-- Host `h`'s dispatcher takes a CONFIGURE of the miss limit (R9, R167). -/
  | configureMissLimit (h : HostId)
  /-- Host `h`'s dispatcher takes a CONFIGURE of the sweep interval (R138, R167). -/
  | configureSweepInterval (h : HostId)
  /-- Host `h`'s dispatcher takes a CONFIGURE of the quarantine (R167). -/
  | configureQuarantine (h : HostId)
  /-- Host `h`'s dispatcher takes a CONFIGURE of the poll interval (R167). -/
  | configurePollInterval (h : HostId)
  /-- Host `h`'s dispatcher takes a CONFIGURE of the poll limit (R113, R167). -/
  | configurePollLimit (h : HostId)
  /-- Host `h`'s dispatcher takes a CONFIGURE that names no parameter (R167). -/
  | configureUnknownParameter (h : HostId)
  /-- Host `h`'s dispatcher takes LINE_RESET (R172). -/
  | lineReset (h : HostId)
  /-- The bit boundary after a line reset begins: the cut and the start of the hold (R32, R91). -/
  | resetHoldStart
  /-- The 64 bit times of the hold are over (R32). -/
  | resetHoldEnd
  /-- The wait after the hold ends, `waited` bit times after it began (R32). -/
  | resetWaitEnd (waited : Nat)
  /-- The end bit of the RESET token has been sent (R171). -/
  | resetTokenSent
  /-- The gap after an attempt is over (R29). -/
  | lineGapEnd
  /-- A command token's deferred start bit is sent; `levels` are the levels of FDA in the bit times of the deferral, true
  where it was released (R29). -/
  | startBitDeferralEnd (levels : List Bool)
  /-- The end bit of a command token other than RESET has been sent (R79). -/
  | commandTokenEnd
  /-- No start bit in bit times 1 to W of an answer or receipt window (R36). -/
  | answerWindowExpiry
  /-- The end bit of an answer token whose start bit fell in bit time `k`; `bits` are its 34 bits after the
  start bit, first sent first (R36). -/
  | answerTokenJudged (k : Nat) (bits : BitVec 34)
  /-- No start bit in bit times 1 to W of a READ burst's window (R37). -/
  | burstWindowExpiry
  /-- The end bit of a READ burst whose start bit fell in bit time `k`: its data bytes, check code and end bit (R37). -/
  | readBurstJudged (k : Nat) (data : List Byte) (crc : BitVec 16) (endBit : Bool)
  /-- The end bit of the controller's WRITE burst has been sent (R37). -/
  | writeBurstEnd
  /-- A WRITE receipt is judged: none when no start bit was seen, else its bit time and its 34 bits (R84). -/
  | receiptJudged (receipt : Option (Nat × BitVec 34))
  /-- Slot 48 of a contention: the 48 sampled bits, slot 1 the most significant (R52). -/
  | contentionEnd (sample : BitVec 48)
  /-- A low on FDA reaches its 10th bit time (R30). -/
  | joinPulseRecognised
  /-- The quarantine timer of the LOST entry at `a` expires (R11). -/
  | quarantineExpiry (a : Addr)
  /-- The lease timer of the claim at `a` expires (R128). -/
  | leaseExpiry (a : Addr)
  /-- The wait timer of host `h`'s wait item on the claim at `a` expires (R129). -/
  | waitExpiry (a : Addr) (h : HostId)
  /-- The poll timer of the deferred record at `a` expires (R110). -/
  | pollTimerExpiry (a : Addr)
  /-- The sweep's interval timer expires (R138). -/
  | sweepIntervalExpiry
deriving DecidableEq, Repr

end Sys2Proof
end

