-- ==== Sys2Proof/WellFormed.lean ====
section
/-! DEFINITION. Which commands are well formed: operands that the manual's formats and intervals admit. -/

namespace Sys2Proof

/-- The four exchanges (R152). -/
inductive Exchange where
  | request | fetch | cancel | hostReset
deriving DecidableEq, Repr

/-- The exchange byte, the first byte of a select period, that names an exchange (Section 12.1). -/
def Exchange.byte : Exchange → Byte
  | .request => 0xA1 | .fetch => 0xA2 | .cancel => 0xA3 | .hostReset => 0xA4

/-- The four exchanges in the order of Section 12.1. -/
def exchanges : List Exchange := [.request, .fetch, .cancel, .hostReset]

/-- The exchange bytes (Section 12.1). -/
def exchangeBytes : List Byte := exchanges.map Exchange.byte

/-- A start bit is looked for in bit times 1 to W, and W is at most 255 (R36, R166). -/
def bitTimeOk (k : Nat) : Bool := decide (1 ≤ k ∧ k ≤ 255)

/-- Operands in the ranges the formats admit. Every other constraint is on the state and is checked there. -/
def Instr.wellFormed : Instr → Bool
  | .request _ _ _ body _ => decide (body.length ≤ 255)
  | .unknownExchange _ first => !exchangeBytes.contains first
  | .resetWaitEnd waited => decide (Config.quietBits ≤ waited ∧ waited ≤ Config.holdWaitLimit)
  | .startBitDeferralEnd levels => decide (Config.deferralHigh ≤ levels.length)
  | .answerTokenJudged k _ => bitTimeOk k
  | .readBurstJudged k data _ _ => bitTimeOk k && decide (1 ≤ data.length ∧ data.length ≤ 64)
  | .receiptJudged (some (k, _)) => bitTimeOk k
  | .receiptJudged none => true
  | .powerOnResetAsserted | .powerOnResetEnd _ | .fetch _ _ | .cancel _ _ _ | .hostReset _ | .hrstnFall _
  | .hrstnRise _ | .invalidRequestCode _ | .list _ | .lookup _ | .recalls _ | .forget _ | .claim _ | .renew _
  | .release _ | .revoke _ | .read _ | .write _ | .ping _ | .enumerate _ | .subscribe _ | .settings _
  | .configureLineRate _ | .configureAnswerWindow _ | .configureRetryLimit _ | .configureMissLimit _
  | .configureSweepInterval _ | .configureQuarantine _ | .configurePollInterval _ | .configurePollLimit _
  | .configureUnknownParameter _ | .lineReset _ | .resetHoldStart | .resetHoldEnd | .resetTokenSent | .lineGapEnd
  | .commandTokenEnd | .answerWindowExpiry | .burstWindowExpiry | .writeBurstEnd | .contentionEnd _
  | .joinPulseRecognised | .quarantineExpiry _ | .leaseExpiry _ | .waitExpiry _ _ | .pollTimerExpiry _
  | .sweepIntervalExpiry => true

end Sys2Proof
end

