-- ==== Sys2Proof/Decode.lean ====
section
/-! DEFINITION. The commands that a word spells by the opcode table's bits. No row of spec/opcode_table.json
carries bits (every row's "fields" is empty and no row has "fixed"): the commands of a block are events, not
words, so no word spells one. The bytes and bits that hosts and modules do exchange are decoded where the
manual says they are: the bytes of a select period in Machine/HostPorts.lean, request bodies at the take (Machine/Operands.lean), tokens at the judgement
(Machine/Formats.lean). -/

namespace Sys2Proof

/-- The command spelled by a word of `nbits` bits: none, since no row of the table gives bits. -/
def decodeTableWord (_nbits _w : Nat) : Option Instr := none

/-- The exchange that the first byte of a select period names, if it names one (R152, Section 12.1). -/
def exchangeOf (first : Byte) : Option Exchange := exchanges.find? fun x => x.byte == first

end Sys2Proof
end

