-- ==== Sys2Proof/Machine/State.lean ====
section
/-! DEFINITION. The state of the LD62: everything the manual gives the controller, as plain data, and its value
in power-on reset. Timers are held as the time-base step at which they expire (R175). -/

namespace Sys2Proof.Machine

open Sys2Proof

/-! ### The module directory (Chapter 1), claim records (Chapter 7), deferred records (Chapter 6) -/

/-- The five states of a directory entry (Section 1.2). -/
inductive EntryState where
  | free | binding | present | suspect | lost
deriving DecidableEq, Repr

/-- A handle as a host sends it: an address byte and a generation byte (R5, Section 12.2). -/
structure Handle where
  addr : Byte
  gen : Byte
deriving DecidableEq, Repr

/-- A waiting CLAIM (R119). The handle is the one the CLAIM carried; `expires` is the wait timer. -/
structure WaitItem where
  host : HostId
  tag : Tag
  handle : Handle
  lease : Nat
  expires : Nat
deriving DecidableEq, Repr

/-- A claim record (R119), attached to the entry of its address; `expires` is the lease timer, `waits` is oldest first. -/
structure Claim where
  holder : HostId
  expires : Nat
  waits : List WaitItem
deriving DecidableEq, Repr

/-- Where a deferred record stands (R108); the poll timer runs in TIMING only. -/
inductive PollPhase where
  | timing (expires : Nat) | due | polling
deriving DecidableEq, Repr

/-- A deferred record (R108), attached to the entry of its address. -/
structure Deferred where
  owner : Option HostId
  tag : Tag
  length : Nat
  polls : Nat
  phase : PollPhase
deriving DecidableEq, Repr

/-- A directory entry (R1). The claim record is the claim unit's and the deferred record the completion poller's. -/
structure Entry where
  state : EntryState := .free
  uid : Option Uid := none
  cls : Option Byte := none
  gen : BitVec 8 := 0
  miss : Nat := 0
  quarantine : Option Nat := none
  claim : Option Claim := none
  deferred : Option Deferred := none
deriving DecidableEq, Repr

/-- A recall record (R12). -/
structure Recall where
  uid : Uid
  addr : Addr
  gen : BitVec 8
deriving DecidableEq, Repr

/-- The module directory: 62 entries (R1), the recall list oldest first (R12), the serial (R15), the parked count (R16). -/
structure Directory where
  entries : Vector Entry 62 := Vector.replicate 62 {}
  recalls : List Recall := []
  serial : BitVec 16 := 0
  parked : Nat := 0
deriving DecidableEq, Repr

/-! ### The identification engine (Chapter 3) -/

/-- The engine states (R48). -/
inductive EngineState where
  | idle | waiting | unparking | seeking | binding | confirming | parking | halted
deriving DecidableEq, Repr

/-- The path by which the round's address was chosen: R3 forms RESTARTED after the restart path and sets the
returning flag after the return path, so the engine carries it from the choice to the completion. -/
inductive BindPath where
  | newcomer | restart | returning
deriving DecidableEq, Repr

/-- How a round whose result is decided will end at its last gap: fouled (R54) or any other way (R50). -/
inductive RoundEnd where
  | plain | fouled
deriving DecidableEq, Repr

/-- The engine's state (R48), with what its rules imply: the path of the choice (R3), the attempts of the bind or
park made and allowed (R56, R61, R67), and the decided end that the last gap of the round will carry out (R50). -/
structure Engine where
  state : EngineState := .waiting
  wanted : Bool := true
  candidate : Option Uid := none
  chosen : Option Addr := none
  openedWithUnpark : Bool := false
  lastFailed : Option Uid := none
  failures : Nat := 0
  path : BindPath := .newcomer
  attempt : Nat := 0
  attemptLimit : Nat := 0
  ending : Option RoundEnd := none
deriving DecidableEq, Repr

/-! ### The scheduler and the line controller (Chapter 4), the line reset (Chapter 11) -/

/-- The side pointer (R72). -/
inductive Side where
  | system | host
deriving DecidableEq, Repr

/-- The scheduler's pointers (R72). -/
structure Scheduler where
  side : Side := .system
  rotation : HostId := 3
deriving DecidableEq, Repr

/-- The four line rates (R27), in the order of their rate codes (Section 12.2). -/
inductive Rate where
  | k250 | m1 | m2 | m4
deriving DecidableEq, Repr

/-- The kinds of a transaction record (R80); RESET is not a kind. -/
inductive TxnKind where
  | unpark | seek | assign | park | ping | read | write | status
deriving DecidableEq, Repr

/-- The owner of a transaction (R80). -/
inductive Owner where
  | host (h : HostId) | identification | poller | sweep
deriving DecidableEq, Repr

/-- The failure mark (R80, R86), lowest first. -/
inductive FailMark where
  | clear | noAnswer | checkFailed | burstFailed
deriving DecidableEq, Repr

/-- The transaction record (R80), with the answer window fixed for the attempt in progress (R81). -/
structure Txn where
  kind : TxnKind
  address : BitVec 6
  argument : BitVec 18
  owner : Owner
  tag : Tag
  replyDropped : Bool
  attempt : Nat
  limit : Nat
  mark : FailMark
  buffer : List Byte
  window : Nat
deriving DecidableEq, Repr

/-- The nine states of the line controller (R79). -/
inductive LineState where
  | idle | command | answerWait | answer | burstIn | burstOut | receiptWait | contention | resetHold
deriving DecidableEq, Repr

/-- Where a line reset stands between its beginning and its RESET token (R171). -/
inductive ResetPhase where
  /-- Begun; the cut falls at the next bit boundary. -/
  | cutPending
  /-- The controller pulls FDA low. -/
  | hold
  /-- FDA released; waiting for a quiet line. -/
  | wait
  /-- The RESET token is being sent. -/
  | token
deriving DecidableEq, Repr

/-- The reason a LINE_RESET notice carries (R170). -/
inductive ResetReason where
  | powerOn | requested (h : HostId)
deriving DecidableEq, Repr

/-- A LINE_RESET request awaiting its RESET token (R172). -/
structure Requester where
  host : HostId
  tag : Tag
  joined : Bool
deriving DecidableEq, Repr

/-- A line reset in progress (R170 to R172); its requesters stand in the order of their takes. -/
structure LineReset where
  phase : ResetPhase
  reason : ResetReason
  requesters : List Requester
deriving DecidableEq, Repr

/-- What is known of the start bit of the command token that COMMAND sends (R29, R30). -/
inductive StartBit where
  /-- Sent at once, or being deferred: no event has told yet. -/
  | untold
  /-- Being deferred; FDA was low in the first `low` bit times of the deferral, and no low that a join pulse may still
  be recognised from is left. -/
  | deferred (low : Nat)
  /-- Sent after a deferral. -/
  | sent
deriving DecidableEq, Repr

/-- The line controller (R79, R80): its state; the current rate (R27); the transaction record; the gap that is
running and its length (R29); what is known of the command token's start bit (R29); the line reset in progress; and the
count of bit times that the line's events have taken, idle time of a free line aside. -/
structure Line where
  state : LineState := .idle
  rate : Rate := .m1
  record : Option Txn := none
  gap : Option Nat := none
  start : StartBit := .untold
  reset : Option LineReset := none
  bitTimes : Nat := 0
deriving DecidableEq, Repr

/-! ### The presence sweep (Chapter 8) and the configuration store (Chapter 11) -/

/-- The presence sweep (R137): the interval timer, absent when stopped; the pass-active flag; the cursor. -/
structure Sweep where
  timer : Option Nat := none
  active : Bool := false
  cursor : Addr := 0
deriving DecidableEq, Repr

/-- The eight parameters, each at its default (R166). -/
structure Params where
  rate : Rate := .m1
  window : Nat := 24
  retryLimit : Nat := 2
  missLimit : Nat := 3
  sweepInterval : Nat := 1000
  quarantine : Nat := 2000
  pollInterval : Nat := 5
  pollLimit : Nat := 400
deriving DecidableEq, Repr

/-! ### Items of the outbound queues (Chapters 9 and 12) -/

/-- A module status (R35, Section 12.3). -/
inductive ModStatus where
  | ok | pend | reject | fault
deriving DecidableEq, Repr

/-- The reply outcomes (Section 12.3). -/
inductive ReplyOutcome where
  | done | granted | stale | held | busy | noAnswer | checkFailed | refused
  | timedOut | aborted | denied | invalid | waitExpired | notFound | notHolder | uncertain
deriving DecidableEq, Repr

/-- The point of refusal of a REFUSED reply (R98, R115). -/
inductive RefusePoint where
  | command | receipt | status
deriving DecidableEq, Repr

/-- The point of failure of a CHECK_FAILED reply (R98). -/
inductive CheckPoint where
  | answer | burst
deriving DecidableEq, Repr

/-- The busy reason (R98). -/
inductive BusyReason where
  | module | deferred
deriving DecidableEq, Repr

/-- The receipt judgement of an UNCERTAIN reply (R103). -/
inductive ReceiptFault where
  | absent | garbled
deriving DecidableEq, Repr

/-- The cause of a deferred record's ABORTED reply (R115). -/
inductive AbortCause where
  | moduleLost | moduleRestarted | lineReset
deriving DecidableEq, Repr

/-- The reason of a CLAIM_REVOKED notice (R136). -/
inductive RevokeReason where
  | leaseExpired | moduleLost | moduleRestarted | revoked | lineReset
deriving DecidableEq, Repr

/-- A directory record of a LIST reply (R21). -/
structure DirRecord where
  addr : Addr
  gen : BitVec 8
  state : EntryState
  cls : Option Byte
  uid : Uid
  miss : Nat
  claimed : Bool
  claimedByAsker : Bool
  deferredPending : Bool
deriving DecidableEq, Repr

/-- The contents of a LOOKUP reply (R22). -/
inductive LookupBody where
  | entry (addr : Addr) (gen : BitVec 8) (state : EntryState) (cls : Option Byte)
  | recalled (addr : Addr) (gen : BitVec 8) (position : Nat)
  | unknown
deriving DecidableEq, Repr

/-- What follows the handle in a reply of the claim unit (R121). -/
inductive ClaimBody where
  | nothing
  | granted (lease : Nat) (waited : Bool)
  | renewed (lease : Nat)
  | released (handover : Bool)
  | revoked (old : HostId) (handover : Bool)
  | holder (h : Option HostId)
deriving DecidableEq, Repr

/-- The bodies of reply items (Section 12.3). -/
inductive ReplyBody where
  | empty
  | readData (bytes : List Byte)
  | written (length : Nat)
  | pinged (value : BitVec 16) (matching : Bool)
  | refused (status : ModStatus) (value : BitVec 16) (point : RefusePoint)
  | busy (reason : BusyReason)
  | heldBy (h : HostId)
  | checkFailed (point : CheckPoint)
  | uncertain (judgement : ReceiptFault)
  | deferredDone (length polls : Nat)
  | deferredRefused (status : ModStatus) (value : BitVec 16) (polls : Nat)
  | timedOut (polls : Nat)
  | deferredAborted (cause : AbortCause) (polls : Nat)
  | claim (handle : Handle) (rest : ClaimBody)
  | records (rs : List DirRecord)
  | lookup (b : LookupBody)
  | recalls (rs : List Recall)
  | masks (before now : BitVec 9)
  | settings (p : Params) (manage halted : Bool)
  | configured (code : Byte) (before now : BitVec 16)
  | joined (flag : Bool)
deriving DecidableEq, Repr

/-- A reply item (Section 12.3); `serial` is the directory serial at the event that placed it. -/
structure Reply where
  tag : Tag
  kind : Byte
  outcome : ReplyOutcome
  qualifier : Byte
  serial : BitVec 16
  body : ReplyBody
deriving DecidableEq, Repr

/-- The eleven notice kinds with their bodies (Section 9.2). -/
inductive NoticeBody where
  | arrived (addr : Addr) (gen : BitVec 8) (uid : Uid) (cls : Option Byte) (returning : Bool)
  | restarted (addr : Addr) (old new : BitVec 8)
  | suspect (addr : Addr) (gen : BitVec 8) (miss : Nat)
  | lost (addr : Addr) (gen : BitVec 8) (uid : Uid)
  | freed (addr : Addr) (recorded : Bool)
  | parked (uid : Uid)
  | bindFailed (uid : Uid)
  | lineFault
  | lineReset (reason : ResetReason)
  | claimRevoked (addr : Addr) (gen : BitVec 8) (reason : RevokeReason)
  | overrun
deriving DecidableEq, Repr

/-- A notice item (R144, Section 12.4). -/
structure Notice where
  serial : BitVec 16
  body : NoticeBody
deriving DecidableEq, Repr

/-- An item of an outbound queue (R151). -/
inductive Item where
  | reply (r : Reply)
  | notice (n : Notice)
deriving DecidableEq, Repr

/-! ### Host ports (Chapter 10) -/

/-- An accepted request, as the host sent it: it is decoded at its take (R153, R174). -/
structure Request where
  code : Byte
  tag : Tag
  body : List Byte
deriving DecidableEq, Repr

/-- The kinds of a line request. -/
inductive LineKind where
  | read | write | ping
deriving DecidableEq, Repr

/-- A line request as the slot keeps it (R96). -/
structure LineRequest where
  tag : Tag
  kind : LineKind
  handle : Handle
  index : BitVec 12
  length : Nat
  data : List Byte
deriving DecidableEq, Repr

/-- The occupied line slot: a request, not granted or granted (R156). -/
structure Slot where
  req : LineRequest
  granted : Bool
deriving DecidableEq, Repr

/-- A host port (R151). `held` while HRSTn is low (R165). `hdo` holds the bytes that the last exchange the port took
gave back on HDOn: its code, and for FETCH the item (R152). -/
structure Port where
  queue : List Request := []
  owed : List Tag := []
  slot : Option Slot := none
  outbound : List Item := []
  overrun : Bool := false
  mask : BitVec 9 := Config.defaultMask
  manage : Bool := false
  held : Bool := false
  hdo : List Byte := []
deriving DecidableEq, Repr

/-! ### The machine -/

/-- The controller. `inReset` while PORn is asserted (R169); `time` is the time-base step (R175); `pending` is the
queue of commands that wait, first in, first out; `freeIndex` counts the free values read (the model's own field). -/
structure State where
  ports : Vector Port 4 := Vector.replicate 4 {}
  dir : Directory := {}
  engine : Engine := {}
  sched : Scheduler := {}
  line : Line := {}
  sweep : Sweep := {}
  config : Params := {}
  time : Nat := 0
  inReset : Bool := true
  freeIndex : Nat := 0
  pending : List Instr := []
deriving DecidableEq, Repr

/-- No rule of the manual makes the controller stop with a fault, so there is none. -/
inductive Fault where
deriving DecidableEq, Repr

/-- Why a command has no meaning in a state. Each is safe: the command names an event that the manual does not let
happen in that state, so the model stops where the hardware cannot be. -/
inductive Refusal where
  /-- Raised by `exec` for a command without a meaning. Safe. -/
  | notModelled (mnemonic : String)
  /-- Raised by a command whose operand lies outside the format or interval that the manual gives it. Safe. -/
  | operandOutOfRange
  /-- Raised by every command of a running block while PORn is asserted (R169). Safe. -/
  | inPowerOnReset
  /-- Raised by the end of power-on reset when PORn is not asserted (R169). Safe. -/
  | notInPowerOnReset
  /-- Raised by an edge of HRSTn to the level the pin already has (R165). Safe. -/
  | pinHasThatLevel
  /-- Raised by a dispatcher's take when the port's request queue is empty (R154). Safe. -/
  | noRequestQueued
  /-- Raised by a dispatcher's take when the head of the queue is another request (R154). Safe. -/
  | otherRequestAtHead
  /-- Raised by a line event that the controller's state does not lead to (R79, R171). Safe. -/
  | lineNotInThatState
  /-- Raised by a start bit said to be seen after the attempt's window (R36, R37). Safe. -/
  | outsideWindow
  /-- Raised by a READ burst said to have another length than the command's argument gives (R37). Safe. -/
  | burstLengthDiffers
  /-- Raised by the expiry of a timer that is not running (R175). Safe. -/
  | timerNotRunning
  /-- Raised by the expiry of a timer whose step the time base has passed, or before which another running timer expires
  (R175). Safe. -/
  | timerNotDue
deriving DecidableEq, Repr

/-- What a command's meaning answers. -/
abbrev Result := Host.Outcome State Fault Refusal

/-- The machine in power-on reset, every item at the value its chapter gives for power-on reset: the entries FREE at
generation 0, the recall list empty, serial and parked count 0 (R25); the engine WAITING with wanted set (R68); the
pointers SYSTEM and 3 (R72); the controller IDLE with no record (R79); no claim and no deferred record (R108, R119);
the pass-active flag clear and the cursor 1 (R137); the ports as R151 gives; the parameters at their defaults (R166).
PORn is still asserted: `powerOnResetEnd` latches the straps, starts the sweep timer and begins the line reset (R169). -/
def State.reset : State := {}

end Sys2Proof.Machine
end

