-- ==== Sys2Proof/Machine/Formats.lean ====
section
/-! DEFINITION. Bytes and bits: check codes, byte order, line tokens and bursts (Sections 2.6, 2.7 and 12.5), the code
tables of Chapter 12, and the bytes of reply and notice items (Sections 12.3 and 12.4). -/

namespace Sys2Proof.Machine

open Sys2Proof

/-! ### Bits and check codes -/

/-- The bits of a word, most significant first: the order in which every field is sent (R28). -/
def bitsOf {w : Nat} (x : BitVec w) : List Bool := (List.range w).map x.getMsbD

/-- One bit fed into the CRC-8 register, generator x^8 + x^2 + x + 1 (R34). -/
def crc8Step (r : BitVec 8) (b : Bool) : BitVec 8 :=
  if (r.msb ^^ b) then (r <<< 1) ^^^ 0x07#8 else r <<< 1

/-- The CRC-8 of a bit string: initial value 0, no final inversion (R34). -/
def crc8 (bits : List Bool) : BitVec 8 := bits.foldl crc8Step 0#8

/-- One bit fed into the CRC-16 register, generator x^16 + x^15 + x^2 + 1 (R37). -/
def crc16Step (r : BitVec 16) (b : Bool) : BitVec 16 :=
  if (r.msb ^^ b) then (r <<< 1) ^^^ 0x8005#16 else r <<< 1

/-- The CRC-16 of a bit string: initial value 0, no final inversion (R37). -/
def crc16 (bits : List Bool) : BitVec 16 := bits.foldl crc16Step 0#16

/-- The CRC-8 of bytes, each most significant bit first (R173). -/
def crc8Bytes (bs : List Byte) : BitVec 8 := crc8 (bs.flatMap bitsOf)

/-- The CRC-16 of a burst's data bytes (R37). -/
def crc16Bytes (bs : List Byte) : BitVec 16 := crc16 (bs.flatMap bitsOf)

/-- A 16-bit field as two bytes, most significant first (Chapter 12). -/
def bytes16 (x : BitVec 16) : List Byte := [x.extractLsb' 8 8, x.extractLsb' 0 8]

/-- A uid as six bytes, most significant first (Chapter 12). -/
def bytes48 (x : Uid) : List Byte :=
  [x.extractLsb' 40 8, x.extractLsb' 32 8, x.extractLsb' 24 8, x.extractLsb' 16 8, x.extractLsb' 8 8, x.extractLsb' 0 8]

/-- A count as one byte. -/
def byteOf (n : Nat) : Byte := BitVec.ofNat 8 n

/-- A count or a time as a 16-bit field. -/
def wordOf (n : Nat) : BitVec 16 := BitVec.ofNat 16 n

/-- A flag at a bit of a flags byte. -/
def flagBit (b : Bool) (i : Nat) : Byte := if b then 1#8 <<< i else 0

/-! ### Code tables (Sections 12.2 to 12.5) -/

/-- The rate code of a line rate (Section 12.2). -/
def rateCode : Rate → Nat
  | .k250 => 0 | .m1 => 1 | .m2 => 2 | .m4 => 3

/-- The line rate a value names; any value above 3 is out of range (R167). -/
def rateOfCode (n : Nat) : Option Rate :=
  if n = 0 then some .k250 else if n = 1 then some .m1 else if n = 2 then some .m2
  else if n = 3 then some .m4 else none

/-- The module status code (Section 12.3). -/
def statusCode : ModStatus → Nat
  | .ok => 0 | .pend => 1 | .reject => 2 | .fault => 3

/-- The status that the 3-bit field names; codes 4 to 7 name none (R35). -/
def statusOfCode (x : BitVec 3) : Option ModStatus :=
  if x = 0 then some .ok else if x = 1 then some .pend else if x = 2 then some .reject
  else if x = 3 then some .fault else none

/-- The command code of a transaction's token (Section 12.5). -/
def commandCode : TxnKind → BitVec 4
  | .unpark => 2 | .seek => 3 | .assign => 4 | .park => 5 | .ping => 6 | .read => 7 | .write => 8 | .status => 9

/-- The command code of RESET (Section 12.5). -/
def resetCode : BitVec 4 := 1

/-- The request codes (Section 12.2). -/
def codeList : Byte := 0x01
def codeLookup : Byte := 0x02
def codeRecalls : Byte := 0x03
def codeForget : Byte := 0x04
def codeClaim : Byte := 0x05
def codeRenew : Byte := 0x06
def codeRelease : Byte := 0x07
def codeRevoke : Byte := 0x08
def codeRead : Byte := 0x09
def codeWrite : Byte := 0x0A
def codePing : Byte := 0x0B
def codeEnumerate : Byte := 0x0C
def codeSubscribe : Byte := 0x0D
def codeSettings : Byte := 0x0E
def codeConfigure : Byte := 0x0F
def codeLineReset : Byte := 0x10

/-- The request code of a line request's kind. -/
def lineKindCode : LineKind → Byte
  | .read => codeRead | .write => codeWrite | .ping => codePing

/-- The exchange codes (Section 12.1). -/
def xAccepted : Byte := 0x00
def xFull : Byte := 0x01
def xDuplicateTag : Byte := 0x02
def xMalformed : Byte := 0x03
def xCancelled : Byte := 0x10
def xTooLate : Byte := 0x11
def xNoSuchTag : Byte := 0x12
def xItem : Byte := 0x20
def xEmpty : Byte := 0x21
def xDone : Byte := 0x30

/-- The outcome codes (Section 12.3). -/
def outcomeCode : ReplyOutcome → Byte
  | .done => 0x00 | .granted => 0x01 | .stale => 0x02 | .held => 0x03 | .busy => 0x04 | .noAnswer => 0x05
  | .checkFailed => 0x06 | .refused => 0x07 | .timedOut => 0x08 | .aborted => 0x09 | .denied => 0x0A
  | .invalid => 0x0B | .waitExpired => 0x0C | .notFound => 0x0D | .notHolder => 0x0E | .uncertain => 0x0F

/-- The entry state codes (Section 12.3). -/
def entryStateCode : EntryState → Byte
  | .free => 0 | .binding => 1 | .present => 2 | .suspect => 3 | .lost => 4

/-- The points of refusal (Section 12.3). -/
def refusePointCode : RefusePoint → Byte
  | .command => 0 | .receipt => 1 | .status => 2

/-- The points of a failed check (Section 12.3). -/
def checkPointCode : CheckPoint → Byte
  | .answer => 0 | .burst => 1

/-- The busy reasons (Section 12.3). -/
def busyReasonCode : BusyReason → Byte
  | .module => 0 | .deferred => 1

/-- The receipt judgements (Section 12.3). -/
def receiptFaultCode : ReceiptFault → Byte
  | .absent => 0 | .garbled => 1

/-- The causes of a deferred record's abort (Section 12.3). -/
def abortCauseCode : AbortCause → Byte
  | .moduleLost => 0 | .moduleRestarted => 1 | .lineReset => 2

/-- The reasons of CLAIM_REVOKED (Section 12.4). -/
def revokeReasonCode : RevokeReason → Byte
  | .leaseExpired => 0 | .moduleLost => 1 | .moduleRestarted => 2 | .revoked => 3 | .lineReset => 4

/-! ### Line tokens (R34, R35, Section 12.5) -/

/-- The 28 bits a command token's check code covers (R34). -/
def commandBody (address : BitVec 6) (code : BitVec 4) (argument : BitVec 18) : BitVec 28 := address ++ code ++ argument

/-- A command token: start 0, address, command code, argument, CRC-8, end 1 (R34). -/
def commandToken (address : BitVec 6) (code : BitVec 4) (argument : BitVec 18) : BitVec 38 :=
  0#1 ++ commandBody address code argument ++ crc8 (bitsOf (commandBody address code argument)) ++ 1#1

/-- The RESET token: address 0, argument 0 (R32, R34). -/
def resetToken : BitVec 38 := commandToken 0 resetCode 0

/-- The command token of a transaction's attempts (R80, R83). -/
def Txn.token (t : Txn) : BitVec 38 := commandToken t.address (commandCode t.kind) t.argument

/-- The 25 bits an answer token's check code covers (R35). -/
def answerBody (echo : BitVec 6) (status : BitVec 3) (value : BitVec 16) : BitVec 25 := echo ++ status ++ value

/-- The 34 bits of a correctly formed answer token after its start bit: echo, status, value, CRC-8, end 1 (R35). -/
def answerBits (echo : BitVec 6) (status : BitVec 3) (value : BitVec 16) : BitVec 34 :=
  answerBody echo status value ++ crc8 (bitsOf (answerBody echo status value)) ++ 1#1

/-- The fields of the 34 bits that follow a start bit (R35). -/
def answerEcho (b : BitVec 34) : BitVec 6 := b.extractLsb' 28 6
def answerStatus (b : BitVec 34) : BitVec 3 := b.extractLsb' 25 3
def answerValue (b : BitVec 34) : BitVec 16 := b.extractLsb' 9 16
def answerCheck (b : BitVec 34) : BitVec 8 := b.extractLsb' 1 8
def answerEnd (b : BitVec 34) : Bool := b.getLsbD 0

/-- READ and WRITE arguments: register index and length less one (R45, R46). -/
def accessArgument (index : BitVec 12) (length : Nat) : BitVec 18 := index ++ BitVec.ofNat 6 (length - 1)

/-- The length that a READ or WRITE argument names, 1 to 64 (R45, R46). -/
def argLength (argument : BitVec 18) : Nat := (argument.extractLsb' 0 6).toNat + 1

/-- ASSIGN's argument: the new address and the uid's low 12 bits (R42). -/
def assignArgument (a : Addr) (u : Uid) : BitVec 18 := addr6 a ++ u.extractLsb' 0 12

/-- PARK's argument: 0 and the uid's low 12 bits (R43). -/
def parkArgument (u : Uid) : BitVec 18 := 0#6 ++ u.extractLsb' 0 12

/-- The low 16 bits of a uid: a PING's value (R44). -/
def uidLow16 (u : Uid) : BitVec 16 := u.extractLsb' 0 16

/-! ### The judgement of an answer token (R36) -/

/-- What the controller makes of an answer it waited for (R36). -/
inductive Judgement where
  | absent
  | garbled
  | correct (status : ModStatus) (value : BitVec 16)
deriving DecidableEq, Repr

/-- The address echo a transaction's answer must carry: the new address for ASSIGN, which the argument holds in its
high 6 bits; for PARK 63 and for every other command the token's address, which is the record's (R36). -/
def expectedEcho (t : Txn) : BitVec 6 :=
  if t.kind = .assign then t.argument.extractLsb' 12 6 else t.address

/-- The value tests of an answer to a command token (R36): an OK answer to READ or WRITE carries the length; ASSIGN
and PARK are answered OK, with 0 in the low byte and with 0. -/
def answerValueOk (t : Txn) (status : ModStatus) (value : BitVec 16) : Bool :=
  match t.kind with
  | .read | .write => status != .ok || decide (value.toNat = argLength t.argument)
  | .assign => status == .ok && value.extractLsb' 0 8 == 0#8
  | .park => status == .ok && value == 0#16
  | _ => true

/-- The value test of a receipt: OK and PEND carry the length (R36). -/
def receiptValueOk (t : Txn) (status : ModStatus) (value : BitVec 16) : Bool :=
  match status with
  | .ok | .pend => decide (value.toNat = argLength t.argument)
  | .reject | .fault => true

/-- The judgement of the 34 bits after a start bit, under a value test (R36). DESIGN CHOICE: a low in the window is a start bit
(R30, R36), so that the zeros of a line held low are a garbled token, although R54 and Section 8.6 have the transactions there end
NO_ANSWER. See notes/assumptions/37.md. -/
def judgeBits (t : Txn) (valueOk : ModStatus → BitVec 16 → Bool) (b : BitVec 34) : Judgement :=
  match statusOfCode (answerStatus b) with
  | none => .garbled
  | some st =>
    if answerEnd b && answerCheck b == crc8 (bitsOf (answerBody (answerEcho b) (answerStatus b) (answerValue b)))
        && answerEcho b == expectedEcho t && valueOk st (answerValue b)
    then .correct st (answerValue b) else .garbled

/-- The judgement of an answer token (R36). -/
def judgeAnswer (t : Txn) (b : BitVec 34) : Judgement := judgeBits t (answerValueOk t) b

/-- The judgement of a receipt (R36). -/
def judgeReceipt (t : Txn) (b : BitVec 34) : Judgement := judgeBits t (receiptValueOk t) b

/-- The judgement of a READ burst's check code and end bit (R37). -/
def burstCorrect (data : List Byte) (crc : BitVec 16) (endBit : Bool) : Bool :=
  endBit && crc == crc16Bytes data

/-- The bits of a burst: start 0, the data bytes, CRC-16, end 1 (R37). -/
def burstFrame (bs : List Byte) : List Bool := false :: (bs.flatMap bitsOf ++ bitsOf (crc16Bytes bs) ++ [true])

/-! ### The bytes of items (Sections 12.3 and 12.4) -/

/-- An optional class: 0xFF when absent (R1). -/
def classByte (c : Option Byte) : Byte := c.getD 0xFF

/-- The holder's host number, 0xFF for "unclaimed" (Section 12.3). -/
def holderByte : Option HostId → Byte
  | some h => byteOf h.val
  | none => 0xFF

/-- A handle's two bytes (Section 12.2). -/
def handleBytes (hd : Handle) : List Byte := [hd.addr, hd.gen]

/-- A directory record, 12 bytes (Section 12.3). -/
def dirRecordBytes (r : DirRecord) : List Byte :=
  [addr8 r.addr, r.gen, entryStateCode r.state, classByte r.cls] ++ bytes48 r.uid ++
  [byteOf r.miss, flagBit r.claimed 0 ||| flagBit r.claimedByAsker 1 ||| flagBit r.deferredPending 2
    ||| flagBit r.cls.isSome 3]

/-- A recall record, 8 bytes (Section 12.3). -/
def recallBytes (r : Recall) : List Byte := bytes48 r.uid ++ [addr8 r.addr, r.gen]

/-- The body of a LOOKUP reply (Section 12.3). -/
def lookupBytes : LookupBody → List Byte
  | .entry a g st c => [addr8 a, g, entryStateCode st, classByte c, flagBit c.isSome 0, 0]
  | .recalled a g p => [addr8 a, g, entryStateCode .free, 0xFF, flagBit true 1, byteOf p]
  | .unknown => [0, 0, 0, 0xFF, 0, 0]

/-- What follows the handle in a reply of the claim unit (Section 12.3). -/
def claimBodyBytes : ClaimBody → List Byte
  | .nothing => []
  | .granted lease waited => bytes16 (wordOf lease) ++ [flagBit waited 0]
  | .renewed lease => bytes16 (wordOf lease)
  | .released handover => [flagBit handover 0]
  | .revoked old handover => [byteOf old.val, flagBit handover 0]
  | .holder h => [holderByte h]

/-- The body of a SETTINGS reply (Section 12.3). -/
def settingsBytes (p : Params) (manage halted : Bool) : List Byte :=
  [byteOf (rateCode p.rate), byteOf p.window, byteOf p.retryLimit, byteOf p.missLimit] ++
  bytes16 (wordOf p.sweepInterval) ++ bytes16 (wordOf p.quarantine) ++ bytes16 (wordOf p.pollInterval) ++
  bytes16 (wordOf p.pollLimit) ++ [flagBit manage 0 ||| flagBit halted 1]

/-- The body of a reply item (Section 12.3). -/
def replyBodyBytes : ReplyBody → List Byte
  | .empty => []
  | .readData bs => byteOf bs.length :: bs
  | .written n => [byteOf n]
  | .pinged v m => bytes16 v ++ [flagBit m 0]
  | .refused st v p => [byteOf (statusCode st)] ++ bytes16 v ++ [refusePointCode p]
  | .busy r => [busyReasonCode r]
  | .heldBy h => [byteOf h.val]
  | .checkFailed p => [checkPointCode p]
  | .uncertain j => [receiptFaultCode j]
  | .deferredDone n polls => byteOf n :: bytes16 (wordOf polls)
  | .deferredRefused st v polls =>
    [byteOf (statusCode st)] ++ bytes16 v ++ [refusePointCode .status] ++ bytes16 (wordOf polls)
  | .timedOut polls => bytes16 (wordOf polls)
  | .deferredAborted c polls => abortCauseCode c :: bytes16 (wordOf polls)
  | .claim hd c => handleBytes hd ++ claimBodyBytes c
  | .records rs => rs.flatMap dirRecordBytes
  | .lookup b => lookupBytes b
  | .recalls rs => rs.flatMap recallBytes
  | .masks b n => bytes16 (b.setWidth 16) ++ bytes16 (n.setWidth 16)
  | .settings p m h => settingsBytes p m h
  | .configured c b n => c :: (bytes16 b ++ bytes16 n)
  | .joined f => [flagBit f 0]

/-- A reply item: class 0x01, tag, kind, outcome, qualifier, serial, body length, body (Section 12.3). -/
def replyBytes (r : Reply) : List Byte :=
  [0x01, r.tag, r.kind, outcomeCode r.outcome, r.qualifier] ++ bytes16 r.serial ++
  [byteOf (replyBodyBytes r.body).length] ++ replyBodyBytes r.body

/-- The kind code of a notice (Section 12.4). -/
def noticeCode : NoticeBody → Byte
  | .arrived .. => 0x01 | .restarted .. => 0x02 | .suspect .. => 0x03 | .lost .. => 0x04 | .freed .. => 0x05
  | .parked .. => 0x06 | .bindFailed .. => 0x07 | .lineFault => 0x08 | .lineReset .. => 0x09
  | .claimRevoked .. => 0x0A | .overrun => 0x0B

/-- The mask bit of a maskable kind; CLAIM_REVOKED and OVERRUN have none (Section 12.4). -/
def maskBit : NoticeBody → Option Nat
  | .arrived .. => some 0 | .restarted .. => some 1 | .suspect .. => some 2 | .lost .. => some 3
  | .freed .. => some 4 | .parked .. => some 5 | .bindFailed .. => some 6 | .lineFault => some 7
  | .lineReset .. => some 8 | .claimRevoked .. => none | .overrun => none

/-- The reason and host bytes of LINE_RESET (Section 12.4). -/
def resetReasonBytes : ResetReason → List Byte
  | .powerOn => [0, 0xFF]
  | .requested h => [1, byteOf h.val]

/-- The body of a notice item (Section 12.4). -/
def noticeBodyBytes : NoticeBody → List Byte
  | .arrived a g u c ret => [addr8 a, g] ++ bytes48 u ++ [classByte c, flagBit c.isSome 0 ||| flagBit ret 1]
  | .restarted a o n => [addr8 a, o, n]
  | .suspect a g m => [addr8 a, g, byteOf m]
  | .lost a g u => [addr8 a, g] ++ bytes48 u
  | .freed a r => [addr8 a, flagBit r 0]
  | .parked u => bytes48 u
  | .bindFailed u => bytes48 u
  | .lineFault => []
  | .lineReset r => resetReasonBytes r
  | .claimRevoked a g r => [addr8 a, g, revokeReasonCode r]
  | .overrun => []

/-- A notice item: class 0x02, kind, serial, body length, body (Section 12.4). -/
def noticeBytes (n : Notice) : List Byte :=
  [0x02, noticeCode n.body] ++ bytes16 n.serial ++ [byteOf (noticeBodyBytes n.body).length] ++ noticeBodyBytes n.body

/-- The bytes of an item as FETCH clocks them out. -/
def itemBytes : Item → List Byte
  | .reply r => replyBytes r
  | .notice n => noticeBytes n

end Sys2Proof.Machine
end

