-- ==== Sys2Proof/Machine/Operands.lean ====
section
/-! DEFINITION. The operands of requests: the fields of a request body (Section 12.2), decoded at the take (R174). -/

namespace Sys2Proof.Machine

open Sys2Proof

/-- A byte of a body; the shape check comes before every use, so that the byte is there (R154). -/
def bodyByte (r : Request) (i : Nat) : Byte := r.body.getD i 0

/-- A 16-bit field of a body, most significant byte first (Chapter 12). -/
def bodyWord (r : Request) (i : Nat) : BitVec 16 := bodyByte r i ++ bodyByte r (i + 1)

/-- A uid field of a body, most significant byte first (Chapter 12). -/
def bodyUid (r : Request) : Uid :=
  bodyByte r 0 ++ bodyByte r 1 ++ bodyByte r 2 ++ bodyByte r 3 ++ bodyByte r 4 ++ bodyByte r 5

/-- The handle of a body: address byte, then generation byte (Section 12.2). -/
def bodyHandle (r : Request) : Handle := ⟨bodyByte r 0, bodyByte r 1⟩

/-- The shape check: whether a body of length `n` fits the request code (Section 12.2, R174). -/
def bodyFits (code : Byte) (n : Nat) : Bool :=
  if code = codeList ∨ code = codeRecalls then n == 1
  else if code = codeLookup ∨ code = codeForget ∨ code = codeClaim then n == 6
  else if code = codeRenew then n == 4
  else if code = codeRelease ∨ code = codeRevoke ∨ code = codePing ∨ code = codeSubscribe then n == 2
  else if code = codeRead then n == 5
  else if code = codeWrite then decide (4 ≤ n ∧ n ≤ Config.maxBody)
  else if code = codeConfigure then n == 3
  else if code = codeEnumerate ∨ code = codeSettings ∨ code = codeLineReset then n == 0
  else false

/-- Whether a request code names one of the sixteen requests, 0x01 to 0x10 (R174). -/
def codeNamesRequest (code : Byte) : Bool := decide (1 ≤ code.toNat ∧ code.toNat ≤ 16)

/-- Whether a request is a CONFIGURE of the parameter with this code: the parameter code is the first body byte. -/
def configures (p : Byte) (r : Request) : Bool := r.code == codeConfigure && r.body.head? == some p

/-- Whether a request is a CONFIGURE that names none of the eight parameters (R167). -/
def configuresUnknown (r : Request) : Bool :=
  r.code == codeConfigure &&
    match r.body.head? with
    | some p => !decide (1 ≤ p.toNat ∧ p.toNat ≤ 8)
    | none => true

/-- The value field of a CONFIGURE (Section 12.2). -/
def configValue (r : Request) : Nat := (bodyWord r 1).toNat

/-- The register index of a READ or WRITE, at its full width (R174). -/
def accessIndex (r : Request) : Nat := (bodyWord r 2).toNat

/-- The length of a READ, or the number of data bytes of a WRITE, which is L - 4 (Section 12.2). -/
def accessLength (k : LineKind) (r : Request) : Nat :=
  match k with
  | .read => (bodyByte r 4).toNat
  | .write => r.body.length - 4
  | .ping => 0

/-- The argument checks of READ, WRITE and PING (R95). -/
def accessArgsOk (k : LineKind) (r : Request) : Bool :=
  match k with
  | .ping => true
  | .read | .write =>
    decide (accessIndex r ≤ 4095) && decide (1 ≤ accessLength k r ∧ accessLength k r ≤ 64)

/-- The line request that the slot keeps (R96). -/
def lineRequestOf (k : LineKind) (r : Request) : LineRequest :=
  { tag := r.tag, kind := k, handle := bodyHandle r, index := BitVec.ofNat 12 (accessIndex r),
    length := accessLength k r, data := if k = .write then r.body.drop 4 else [] }

/-- The lease of a CLAIM or RENEW (Section 12.2). -/
def leaseField (r : Request) : Nat := (bodyWord r 2).toNat

/-- The wait of a CLAIM (Section 12.2). -/
def waitField (r : Request) : Nat := (bodyWord r 4).toNat

end Sys2Proof.Machine
end

