-- ==== Sys2Proof/Machine/Ops.lean ====
section
/-! DEFINITION. The named operations every block shares: reading and writing ports and entries, the directory
serial, placing replies and offering notices, handle checks, the wanted flag. -/

namespace Sys2Proof.Machine

open Sys2Proof

/-! ### Reading and writing the tables -/

/-- Host `h`'s port. -/
def State.port (s : State) (h : HostId) : Port := s.ports[h]

/-- The state with host `h`'s port replaced. -/
def State.setPort (s : State) (h : HostId) (p : Port) : State := { s with ports := s.ports.set h p }

/-- The entry at address `a`. -/
def State.entry (s : State) (a : Addr) : Entry := s.dir.entries[a]

/-- The state with the entry at `a` replaced. -/
def State.setEntry (s : State) (a : Addr) (e : Entry) : State :=
  { s with dir := { s.dir with entries := s.dir.entries.set a e } }

/-- The state with every entry changed alike. -/
def State.mapEntries (s : State) (f : Entry → Entry) : State :=
  { s with dir := { s.dir with entries := s.dir.entries.map f } }

/-- The state with the recall list replaced. -/
def State.setRecalls (s : State) (l : List Recall) : State := { s with dir := { s.dir with recalls := l } }

/-- The state with the parked count replaced (R16). -/
def State.setParked (s : State) (n : Nat) : State := { s with dir := { s.dir with parked := n } }

/-- One increment of the directory serial, 65535 followed by 0 (R15). -/
def State.bumpSerial (s : State) : State := { s with dir := { s.dir with serial := s.dir.serial + 1 } }

/-- Whether an entry is PRESENT or SUSPECT: a module is bound there and may be reached (R5). -/
def Entry.bound (e : Entry) : Bool := e.state == .present || e.state == .suspect

/-- The entry made FREE: only the generation is kept (R1, R4, R11). -/
def Entry.freed (e : Entry) : Entry := { gen := e.gen }

/-! ### Replies and notices (R157, R160, R144, R148) -/

/-- What an event places: a reply to one host, a notice offered by mask, or a notice offered to one host only. -/
inductive Post where
  | reply (h : HostId) (tag : Tag) (kind : Byte) (outcome : ReplyOutcome) (qualifier : Byte) (body : ReplyBody)
  | notice (body : NoticeBody)
  | noticeTo (h : HostId) (body : NoticeBody)
deriving DecidableEq, Repr

/-- The free notice space: 24 less the items less the owed tags (R157). -/
def Port.freeSpace (p : Port) : Nat := Config.outboundCapacity - p.outbound.length - p.owed.length

/-- The reply to an owed tag joins the queue at the newest end and its tag leaves the owed set (R157, R160). A tag that
is not owed has no reply to receive (R160): nothing is placed. See notes/assumptions/13.md. -/
def Port.placeReply (p : Port) (r : Reply) : Port :=
  if r.tag ∈ p.owed then { p with outbound := p.outbound ++ [.reply r], owed := p.owed.erase r.tag } else p

/-- A notice offered to a port is placed when there is free notice space, and otherwise dropped with the overrun flag
set (R157); a port held by HRSTn takes none and keeps its flag (R165). -/
def Port.offer (p : Port) (n : Notice) : Port :=
  if p.held then p
  else if p.freeSpace = 0 then { p with overrun := true }
  else { p with outbound := p.outbound ++ [.notice n] }

/-- Whether a port's mask selects a notice (R146, R148). -/
def Port.wants (p : Port) (b : NoticeBody) : Bool :=
  match maskBit b with
  | some i => p.mask.getLsbD i
  | none => false

/-- A maskable notice offered to every port whose mask includes its kind (R148). -/
def State.offerAll (s : State) (n : Notice) : State :=
  { s with ports := s.ports.map fun p => if p.wants n.body then p.offer n else p }

/-- One item placed or offered, carrying the serial that stands at the end of the event (R144, Section 12.3). -/
def State.post (s : State) : Post → State
  | .reply h tag kind o q b => s.setPort h ((s.port h).placeReply ⟨tag, kind, o, q, s.dir.serial, b⟩)
  | .notice b => s.offerAll ⟨s.dir.serial, b⟩
  | .noticeTo h b => s.setPort h ((s.port h).offer ⟨s.dir.serial, b⟩)

/-- The items of one event, placed in order after every change the event makes (R149). -/
def State.postAll (s : State) (ps : List Post) : State := ps.foldl State.post s

/-- The qualifier of a line request's reply: attempts in bits 0 to 2, the deferred mark in bit 7 (Section 12.3). -/
def attemptsQualifier (attempts : Nat) (deferred : Bool) : Byte := byteOf attempts ||| flagBit deferred 7

/-! ### Handles (R5) -/

/-- The answer to a handle check (R5). -/
inductive HandleCheck where
  | malformed
  | stale
  | current (a : Addr)
deriving DecidableEq, Repr

/-- The check of a handle against the directory as it stands (R5). -/
def State.checkHandle (s : State) (hd : Handle) : HandleCheck :=
  match addrOfNat hd.addr.toNat with
  | none => .malformed
  | some a => if (s.entry a).bound && (s.entry a).gen == hd.gen then .current a else .stale

/-! ### The wanted flag (R49) -/

/-- A trigger of the wanted flag: an IDLE engine becomes WAITING, any other state stays (R49). -/
def State.setWanted (s : State) : State :=
  { s with engine := { s.engine with wanted := true, state := if s.engine.state = .idle then .waiting else s.engine.state } }

/-- A trigger that counts only while the parked count is not 0: an entry became FREE (R16, R49). -/
def State.wantIfParked (s : State) : State := if s.dir.parked ≠ 0 then s.setWanted else s

/-! ### Taking a request (R154, R155) -/

/-- The head of host `h`'s request queue, when it is the request the event names, leaves the queue and is decided. -/
def takeRequest (h : HostId) (names : Request → Bool) (act : Request → State → State) (s : State) : Result :=
  if s.inReset then .refused .inPowerOnReset
  else
    match (s.port h).queue with
    | [] => .refused .noRequestQueued
    | r :: rest =>
      if names r then .next (act r (s.setPort h { s.port h with queue := rest })) else .refused .otherRequestAtHead

/-- The qualifier of a reply at a take: for RECALLS the number of records the recall list holds; otherwise 0, which for
READ, WRITE and PING is attempts made 0 (Section 12.3, R98). -/
def State.takeQualifier (s : State) (code : Byte) : Byte :=
  if code = codeRecalls then byteOf s.dir.recalls.length else 0

/-- The reply that a request receives at its take. -/
def State.answer (s : State) (h : HostId) (r : Request) (o : ReplyOutcome) (b : ReplyBody) : State :=
  s.post (.reply h r.tag r.code o (s.takeQualifier r.code) b)

/-- The shape check of R154: a body that does not fit its code is answered INVALID. -/
def shaped (h : HostId) (act : Request → State → State) (r : Request) (s : State) : State :=
  if bodyFits r.code r.body.length then act r s else s.answer h r .invalid .empty

/-- The manage check of R155: without the manage flag the request is answered DENIED. -/
def managing (h : HostId) (act : Request → State → State) (r : Request) (s : State) : State :=
  if (s.port h).manage then act r s else s.answer h r .denied .empty

/-! ### Time (R175) -/

/-- The time base at the step of a timer's expiry: a timer started at step k with n ms expires at step k + n (R175). -/
def State.elapseTo (s : State) (step : Nat) : State := { s with time := step }

end Sys2Proof.Machine
end

