-- ==== Sys2Proof/Machine/Claims.lean ====
section
/-! DEFINITION. The claim unit's operations: ending a record, handing a claim over, the notice CLAIM_REVOKED, and the
claim unit's part in a line reset and a port reset (Chapter 7). -/

namespace Sys2Proof.Machine

open Sys2Proof

/-- A reply to the waiting CLAIM of a wait item; it begins with the handle the CLAIM carried (R121). -/
def WaitItem.reply (w : WaitItem) (o : ReplyOutcome) (b : ClaimBody) : Post :=
  .reply w.host w.tag codeClaim o 0 (.claim w.handle b)

/-- The same ending for every waiting CLAIM of an entry's record, oldest first: STALE (R133) or ABORTED (R134). -/
def Entry.waitersEnd (e : Entry) (o : ReplyOutcome) : List Post :=
  match e.claim with
  | some c => c.waits.map fun w => w.reply o .nothing
  | none => []

/-- CLAIM_REVOKED to the holder of an entry's record, with the generation the entry holds (R133, R134, R136). -/
def Entry.holderRevoked (e : Entry) (a : Addr) (reason : RevokeReason) : List Post :=
  match e.claim with
  | some c => [.noticeTo c.holder (.claimRevoked a e.gen reason)]
  | none => []

/-- The items of a wait list, first to last, after the holder has left: the first item whose handle is current becomes
the holder with its own lease and receives GRANTED; an item that is not current is answered STALE (R124). -/
def State.nextHolder (s : State) : List WaitItem → Option Claim × List Post
  | [] => (none, [])
  | w :: ws =>
    match s.checkHandle w.handle with
    | .current _ =>
      (some { holder := w.host, expires := s.time + w.lease, waits := ws }, [w.reply .granted (.granted w.lease true)])
    | _ => let (c, ps) := s.nextHolder ws; (c, w.reply .stale .nothing :: ps)

/-- The handover at the entry `a` whose holder leaves: the state with the next holder or no record, the items it
places, and the handover flag (R124). -/
def State.handOver (s : State) (a : Addr) (waits : List WaitItem) : State × List Post × Bool :=
  let (c, ps) := s.nextHolder waits
  (s.setEntry a { s.entry a with claim := c }, ps, c.isSome)

/-- An entry's record without the wait items of host `h` (R135). -/
def Entry.dropWaits (e : Entry) (h : HostId) : Entry :=
  { e with claim := e.claim.map fun c => { c with waits := c.waits.filter fun w => w.host ≠ h } }

/-- An entry's record without the wait item of host `h` with this tag (R161). -/
def Entry.dropWait (e : Entry) (h : HostId) (t : Tag) : Entry :=
  { e with claim := e.claim.map fun c => { c with waits := c.waits.filter fun w => ¬ (w.host = h ∧ w.tag = t) } }

/-- Whether an entry's record holds a wait item of host `h` with this tag. -/
def Entry.hasWait (e : Entry) (h : HostId) (t : Tag) : Bool :=
  match e.claim with
  | some c => c.waits.any fun w => w.host == h && w.tag == t
  | none => false

/-- One step of a port reset's handovers: the claim at `a`, if host `h` holds it, is handed over (R135). -/
def releaseHeld (h : HostId) (acc : State × List Post) (a : Addr) : State × List Post :=
  match (acc.1.entry a).claim with
  | some c =>
    if c.holder = h then
      let (s, ps, _) := acc.1.handOver a c.waits
      (s, acc.2 ++ ps)
    else acc
  | none => acc

/-- A port reset's part in the claim unit: host `h`'s wait items are removed everywhere, then every claim it holds is
handed over in ascending order of address, with no CLAIM_REVOKED (R135). -/
def State.resetClaims (s : State) (h : HostId) : State × List Post :=
  allAddrs.foldl (releaseHeld h) (s.mapEntries fun e => e.dropWaits h, [])

end Sys2Proof.Machine
end

