-- ==== Sys2Proof/Machine/Poller.lean ====
section
/-! DEFINITION. The completion poller's operations: creating and ending deferred records, and the poll limit
(Chapter 6). The handling of a STATUS outcome stands in Machine/Transactions.lean. -/

namespace Sys2Proof.Machine

open Sys2Proof

/-- A reply of the poller: kind WRITE, the deferred mark set, and the record's tag; a record without an owner places
none (R115). -/
def Deferred.reply (d : Deferred) (o : ReplyOutcome) (attempts : Nat) (b : ReplyBody) : List Post :=
  match d.owner with
  | some h => [.reply h d.tag codeWrite o (attemptsQualifier attempts true) b]
  | none => []

/-- The ABORTED reply of an entry's deferred record, when it carries one (R114, R117). -/
def Entry.deferredAborted (e : Entry) (cause : AbortCause) (attempts : Nat) : List Post :=
  match e.deferred with
  | some d => d.reply .aborted attempts (.deferredAborted cause d.polls)
  | none => []

/-- The record a PEND receipt creates (R104, R109). -/
def State.newDeferred (s : State) (owner : Option HostId) (tag : Tag) (length : Nat) : Deferred :=
  { owner := owner, tag := tag, length := length, polls := 0, phase := .timing (s.time + s.config.pollInterval) }

/-- The poll limit applied to a record that a STATUS outcome would continue: the record that goes on timing, or the
TIMED_OUT that ends it (R112, R113). -/
def State.continuePoll (s : State) (d : Deferred) (attempts : Nat) : Option Deferred × List Post :=
  if s.config.pollLimit ≤ d.polls then (none, d.reply .timedOut attempts (.timedOut d.polls))
  else (some { d with phase := .timing (s.time + s.config.pollInterval) }, [])

/-- An entry whose record's owner is host `h` loses the owner: the poller polls it to its end with no reply (R116). -/
def Entry.disown (e : Entry) (h : HostId) : Entry :=
  { e with deferred := e.deferred.map fun d => if d.owner = some h then { d with owner := none } else d }

/-- Whether an entry's record waits for the grant of a poll (R110). -/
def Entry.pollDue (e : Entry) : Bool :=
  match e.deferred with
  | some d => d.phase == .due
  | none => false

/-- The record a granted poller serves: the one in DUE with the lowest address (R110). -/
def State.duePoll (s : State) : Option Addr := allAddrs.find? fun a => (s.entry a).pollDue

end Sys2Proof.Machine
end

