-- ==== Sys2Proof/Machine/Sweep.lean ====
section
/-! DEFINITION. The presence sweep's operations: eligibility, the walk of a pass and its end (Chapter 8). -/

namespace Sys2Proof.Machine

open Sys2Proof

/-- Eligible for the sweep: PRESENT or SUSPECT, and no deferred record (R139). -/
def Entry.eligible (e : Entry) : Bool := e.bound && e.deferred.isNone

/-- The eligible entry with the lowest address at or above `c` (R141). -/
def State.nextEligible (s : State) (c : Addr) : Option Addr := allAddrs.find? fun a => decide (c ≤ a) && (s.entry a).eligible

/-- The entry the active pass would ping next (R71, R141). -/
def State.sweepNext (s : State) : Option Addr := if s.sweep.active then s.nextEligible s.sweep.cursor else none

/-- An active pass with no eligible entry at or above the cursor ends in the event that makes it so (R140). -/
def State.endIdlePass (s : State) : State :=
  if s.sweep.active && (s.nextEligible s.sweep.cursor).isNone then { s with sweep := { s.sweep with active := false } } else s

/-- The advance of an active pass after the PING to `a`: past 62 the pass ends, else the cursor moves on (R142). A pass
that a line reset has ended is not advanced (R143). -/
def State.advanceSweep (s : State) (a : Addr) : State :=
  if s.sweep.active then
    if h : a.val + 1 < 62 then { s with sweep := { s.sweep with cursor := ⟨a.val + 1, h⟩ } }
    else { s with sweep := { s.sweep with active := false } }
  else s

/-- The start of a pass (R139). -/
def State.beginPass (s : State) : State := { s with sweep := { s.sweep with active := true, cursor := 0 } }.endIdlePass

end Sys2Proof.Machine
end

