-- ==== Sys2Proof/Machine/Directory.lean ====
section
/-! DEFINITION. The module directory's operations: the recall list, miss counting, the move to LOST, freeing, the choice
of an address, bind completion and failure, a changed miss limit, and line reset (Chapter 1). -/

namespace Sys2Proof.Machine

open Sys2Proof

/-! ### The recall list (R12 to R14) -/

/-- A record joins at the newest end; a full list loses its oldest record first (R13). -/
def joinRecall (l : List Recall) (r : Recall) : List Recall :=
  (if Config.recallCapacity ≤ l.length then l.drop (l.length - (Config.recallCapacity - 1)) else l) ++ [r]

/-- The record an entry leaves when it becomes FREE (R11, R12). -/
def Entry.recall (e : Entry) (a : Addr) : Option Recall := e.uid.map fun u => ⟨u, a, e.gen⟩

/-- The recall list after the entry's record has joined it. -/
def joinEntry (l : List Recall) (e : Entry) (a : Addr) : List Recall :=
  match e.recall a with
  | some r => joinRecall l r
  | none => l

/-- The LOST entry at `a` becomes FREE with a recall record; wanted is set while the parked count is not 0 (R11 steps 1,
2 and 5). The serial is the event's. -/
def State.freeRecorded (s : State) (a : Addr) : State :=
  ((s.setRecalls (joinEntry s.dir.recalls (s.entry a) a)).setEntry a (s.entry a).freed).wantIfParked

/-! ### Outcomes and misses (R6 to R8) -/

/-- The outcome of a transaction (R86, R91). `point` tells an answer to the command token from a receipt, and the bytes
of a correct READ burst are in the record's buffer. -/
inductive TxnOutcome where
  | answered (status : ModStatus) (value : BitVec 16) (point : RefusePoint)
  | noAnswer
  | checkFailed
  | burstFailed
  | receiptMissing (judgement : ReceiptFault)
  | aborted
deriving DecidableEq, Repr

/-- The entry made LOST: the uid, class and generation stay, the quarantine timer runs, and the claim and deferred
records are gone (R8, R10). -/
def State.lostEntry (s : State) (e : Entry) : Entry :=
  { e with state := .lost, miss := 0, quarantine := some (s.time + s.config.quarantine), claim := none, deferred := none }

/-- The tail of a move to LOST: the serial moves once; with a quarantine of 0 the entry goes on to FREE in the same
event, and FREED follows LOST (R8, R11). -/
def State.intoLost (s : State) (a : Addr) : State × List Post :=
  let e := s.entry a
  let s1 := (s.setEntry a (s.lostEntry e)).bumpSerial
  let lost := Post.notice (.lost a e.gen (e.uid.getD 0))
  if s.config.quarantine = 0 then (s1.freeRecorded a, [lost, .notice (.freed a true)]) else (s1, [lost])

/-- The move of a PRESENT or SUSPECT entry to LOST, with its items in the order of R8: STALE to the waiting CLAIMs, the
deferred record's ABORTED, CLAIM_REVOKED, LOST. `attempts` is the attempt number of the missed transaction (R115). -/
def State.moveToLost (s : State) (a : Addr) (attempts : Nat) : State × List Post :=
  let e := s.entry a
  let (s1, ps) := s.intoLost a
  (s1, e.waitersEnd .stale ++ e.deferredAborted .moduleLost attempts ++ e.holderRevoked a .moduleLost ++ ps)

/-- A missed transaction of a PRESENT or SUSPECT entry (R7). -/
def State.countMiss (s : State) (a : Addr) (attempts : Nat) : State × List Post :=
  let e := s.entry a
  if e.miss + 1 < s.config.missLimit then
    let s1 := s.setEntry a { e with state := .suspect, miss := e.miss + 1 }
    (if e.state = .present then s1.bumpSerial else s1, [.notice (.suspect a e.gen (e.miss + 1))])
  else s.moveToLost a attempts

/-- A correct answer from a PRESENT or SUSPECT entry (R6). -/
def State.clearMiss (s : State) (a : Addr) : State :=
  let e := s.entry a
  let s1 := s.setEntry a { e with state := .present, miss := 0 }
  if e.state = .suspect then s1.bumpSerial else s1

/-- The directory's part in the delivery of an outcome: only a PRESENT or SUSPECT entry takes it (R6). -/
def State.applyOutcome (s : State) (a : Addr) (o : TxnOutcome) (attempts : Nat) : State × List Post :=
  if (s.entry a).bound then
    match o with
    | .answered _ _ _ => (s.clearMiss a, [])
    | .noAnswer | .receiptMissing _ => s.countMiss a attempts
    | .checkFailed | .burstFailed | .aborted => (s, [])
  else (s, [])

/-! ### The choice of an address (R17 to R20) -/

/-- The entry that is not FREE and holds the uid (R17 step 1, R22, R24). -/
def State.holderOf (s : State) (u : Uid) : Option Addr :=
  allAddrs.find? fun a => (s.entry a).state != .free && (s.entry a).uid == some u

/-- The recall record that holds the uid (R17 step 2, R22, R24). -/
def State.recallOf (s : State) (u : Uid) : Option Recall := s.dir.recalls.find? fun r => r.uid == u

/-- Whether a recall record names the address. -/
def State.reserved (s : State) (a : Addr) : Bool := s.dir.recalls.any fun r => r.addr == a

/-- The lowest FREE address that no recall record names (R17 step 3). -/
def State.lowestUnreserved (s : State) : Option Addr :=
  allAddrs.find? fun a => (s.entry a).state == .free && !s.reserved a

/-- The lowest FREE address (R17 step 4). -/
def State.lowestFree (s : State) : Option Addr := allAddrs.find? fun a => (s.entry a).state == .free

/-- A FREE entry taken for the round: BINDING with the candidate uid; generation, class and miss count stay (R17). -/
def State.takeFree (s : State) (a : Addr) (u : Uid) : State :=
  (s.setEntry a { s.entry a with state := .binding, uid := some u }).bumpSerial

/-- The restart path: the PRESENT or SUSPECT entry is retired, with its items in the order of R18. -/
def State.retire (s : State) (a : Addr) : State × List Post :=
  let e := s.entry a
  ((s.setEntry a { e with state := .binding, cls := none, miss := 0, claim := none, deferred := none }).bumpSerial,
   e.waitersEnd .stale ++ e.deferredAborted .moduleRestarted 0 ++ e.holderRevoked a .moduleRestarted)

/-- The return path: the LOST entry is taken for the round, its timer ending (R19). -/
def State.takeLost (s : State) (a : Addr) : State :=
  (s.setEntry a { s.entry a with state := .binding, cls := none, quarantine := none }).bumpSerial

/-- The address choice for a candidate uid: the first of the five steps that matches (R17). -/
def State.chooseAddress (s : State) (u : Uid) : State × List Post × Option (Addr × BindPath) :=
  match s.holderOf u with
  | some a =>
    if (s.entry a).bound then
      let (s1, ps) := s.retire a
      (s1, ps, some (a, .restart))
    else (s.takeLost a, [], some (a, .returning))
  | none =>
    match s.recallOf u with
    | some r => ((s.setRecalls (s.dir.recalls.filter fun x => x.uid ≠ u)).takeFree r.addr u, [], some (r.addr, .newcomer))
    | none =>
      match s.lowestUnreserved with
      | some a => (s.takeFree a u, [], some (a, .newcomer))
      | none =>
        match s.lowestFree with
        | some a => ((s.setRecalls (s.dir.recalls.filter fun x => x.addr ≠ a)).takeFree a u, [], some (a, .newcomer))
        | none => (s, [], none)

/-! ### Binding (R3, R10) -/

/-- The bind at `a` is complete: PRESENT at the next generation, 255 followed by 0, with the class the ASSIGN answer
gave or none, and one notice (R3, R4). -/
def State.bindDone (s : State) (a : Addr) (path : BindPath) (cls : Option Byte) : State × List Post :=
  let e := s.entry a
  ((s.setEntry a { e with state := .present, gen := e.gen + 1, miss := 0, cls := cls }).bumpSerial,
   [match path with
    | .restart => .notice (.restarted a e.gen (e.gen + 1))
    | .newcomer => .notice (.arrived a (e.gen + 1) (e.uid.getD 0) cls false)
    | .returning => .notice (.arrived a (e.gen + 1) (e.uid.getD 0) cls true)])

/-- The bind at `a` has finally failed: the entry in BINDING becomes LOST (R10). -/
def State.bindLost (s : State) (a : Addr) : State × List Post := s.intoLost a

/-! ### A changed miss limit (R9) -/

/-- Whether the new limit reaches an entry: SUSPECT with a count equal to or above it (R9). -/
def Entry.overLimit (e : Entry) (limit : Nat) : Bool := e.state == .suspect && decide (limit ≤ e.miss)

/-- A SUSPECT entry at or above the new limit is left with the limit less one, and is PRESENT when that is 0 (R9). -/
def Entry.lowerMiss (e : Entry) (limit : Nat) : Entry :=
  if e.overLimit limit then
    { e with miss := limit - 1, state := if limit - 1 = 0 then .present else .suspect }
  else e

/-- A miss limit taken up by the directory, with one serial increment when some entry changes state (R9). -/
def State.applyMissLimit (s : State) (limit : Nat) : State :=
  let s1 := s.mapEntries fun e => e.lowerMiss limit
  if limit = 1 ∧ allAddrs.any (fun a => (s.entry a).overLimit limit) then s1.bumpSerial else s1

/-! ### Line reset (R26) -/

/-- The addresses whose entries are not FREE, ascending. -/
def State.busyAddrs (s : State) : List Addr := allAddrs.filter fun a => (s.entry a).state != .free

/-- The directory's part in a line reset: every entry that is not FREE leaves a recall record in ascending order of
address and becomes FREE; the parked count becomes 0; one serial increment if any entry was freed (R26). Claim and
deferred records go with the entries (R117, R134). -/
def State.resetDirectory (s : State) : State :=
  let s1 := s.setRecalls (s.busyAddrs.foldl (fun l a => joinEntry l (s.entry a) a) s.dir.recalls)
  let s2 := (s1.mapEntries fun e =>
    if e.state = .free then { e with claim := none, deferred := none } else e.freed).setParked 0
  if s.busyAddrs.isEmpty then s2 else s2.bumpSerial

end Sys2Proof.Machine
end

