-- ==== Sys2Proof/Machine/Identification.lean ====
section
/-! DEFINITION. The identification engine's operations: the tokens of a round, the contention result, the decisions on
ASSIGN, the confirming PING and PARK, the failure record, the end of a round, ENUMERATE and line reset (Chapter 3). -/

namespace Sys2Proof.Machine

open Sys2Proof

/-- The engine states in which a round holds the line (R48). -/
def EngineState.inRound : EngineState → Bool
  | .unparking | .seeking | .binding | .confirming | .parking => true
  | .idle | .waiting | .halted => false

/-- The engine without its failure record (R57, R61, R66, R69). -/
def Engine.clearFailure (e : Engine) : Engine := { e with lastFailed := none, failures := 0 }

/-- The engine without what belongs to one round (R48). -/
def Engine.clearRound (e : Engine) : Engine :=
  { e with candidate := none, chosen := none, openedWithUnpark := false, path := .newcomer, attempt := 0,
           attemptLimit := 0, ending := none }

/-- The state with the engine changed. -/
def State.modEngine (s : State) (f : Engine → Engine) : State := { s with engine := f s.engine }

/-- The round's result is decided; its grant ends with the gap that follows (R50). -/
def State.decideRound (s : State) (how : RoundEnd) : State := s.modEngine fun e => { e with ending := some how }

/-- The grant of a round: wanted, candidate and chosen address are cleared, and the parked count decides how the round
opens (R50). -/
def State.startRound (s : State) : State :=
  s.modEngine fun e =>
    { e.clearRound with wanted := false, openedWithUnpark := decide (s.dir.parked ≠ 0),
                        state := if s.dir.parked ≠ 0 then .unparking else .seeking }

/-- The end of a round at its last gap: HALTED after a fouled contention, else WAITING if wanted and IDLE if not (R50). -/
def State.endRound (s : State) (how : RoundEnd) : State :=
  s.modEngine fun e =>
    { e.clearRound with
      state := match how with
        | .fouled => .halted
        | .plain => if e.wanted then .waiting else .idle }

/-- The transaction record a grant forms, before its first attempt (R78, R80). -/
def newTxn (kind : TxnKind) (address : BitVec 6) (argument : BitVec 18) (owner : Owner) (tag : Tag)
    (buffer : List Byte) : Txn :=
  { kind := kind, address := address, argument := argument, owner := owner, tag := tag, replyDropped := false,
    attempt := 1, limit := 1, mark := .clear, buffer := buffer, window := 0 }

/-- A token of a round, a transaction of one attempt (R78, R82). -/
def roundTxn (kind : TxnKind) (address : BitVec 6) (argument : BitVec 18) : Txn :=
  newTxn kind address argument .identification 0 []

/-- The token the engine names next (R51, R52, R56, R58, R61). -/
def Engine.nextToken (e : Engine) : Option Txn :=
  match e.state, e.chosen, e.candidate with
  | .unparking, _, _ => some (roundTxn .unpark 0 0)
  | .seeking, _, _ => some (roundTxn .seek 0 0)
  | .binding, some a, some u => some (roundTxn .assign 63 (assignArgument a u))
  | .confirming, some a, _ => some (roundTxn .ping (addr6 a) 0)
  | .parking, _, some u => some (roundTxn .park 63 (parkArgument u))
  | _, _, _ => none

/-- The count of ASSIGN or PARK attempts as one begins; attempt 1 fixes how many there may be (R56, R61, R67). -/
def Engine.countAttempt (e : Engine) (retryLimit : Nat) : Engine :=
  if e.state = .binding ∨ e.state = .parking then
    { e with attempt := e.attempt + 1, attemptLimit := if e.attempt = 0 then retryLimit + 1 else e.attemptLimit }
  else e

/-- The failure record applied to the candidate uid: below three failures another round is wanted; at the third,
BIND_FAILED is formed and wanted and the record are cleared (R64). -/
def State.recordFailure (s : State) (u : Uid) : State × List Post :=
  let n := if s.engine.lastFailed = some u then s.engine.failures + 1 else 1
  if n < Config.failureLimit then
    ((s.modEngine fun e => { e with lastFailed := some u, failures := n }).setWanted, [])
  else ((s.modEngine fun e => { e.clearFailure with wanted := false }), [.notice (.bindFailed u)])

/-- The candidate uid of the round in progress. -/
def State.candidateUid (s : State) : Uid := s.engine.candidate.getD 0

/-- The bind at `a` is complete: the directory's part, then the engine's (R57). -/
def State.completeBind (s : State) (a : Addr) (cls : Option Byte) : State × List Post :=
  let (s1, ps) := s.bindDone a s.engine.path cls
  (((s1.modEngine Engine.clearFailure).setWanted).decideRound .plain, ps)

/-- The bind at `a` finally fails: the entry becomes LOST, then the failure record is applied (R59). -/
def State.failBind (s : State) (a : Addr) : State × List Post :=
  let (s1, ps) := s.bindLost a
  let (s2, qs) := s1.recordFailure s1.candidateUid
  (s2.decideRound .plain, ps ++ qs)

/-- The survivor has accepted PARK (R61); wanted is set unless the round opened with UNPARK (R63). -/
def State.parkAccepted (s : State) : State × List Post :=
  let s1 := (s.setParked (s.dir.parked + 1)).modEngine Engine.clearFailure
  ((if s.engine.openedWithUnpark then s1 else s1.setWanted).decideRound .plain, [.notice (.parked s.candidateUid)])

/-- The park has failed; the directory is unaffected (R62). -/
def State.failPark (s : State) : State × List Post :=
  let (s1, ps) := s.recordFailure s.candidateUid
  (s1.decideRound .plain, ps)

/-- The decision on an ASSIGN answer: a correct one completes the bind with the class in its high byte; any other is
followed by a confirming PING (R56, R57). -/
def State.decideAssign (s : State) (a : Addr) (j : Judgement) : State × List Post :=
  match j with
  | .correct _ v => s.completeBind a (some (v.extractLsb' 8 8))
  | .absent | .garbled => (s.modEngine fun e => { e with state := .confirming }, [])

/-- Whether the answer to the confirming PING confirms: OK with the low 16 bits of the candidate uid (R58). -/
def State.pingConfirms (s : State) (j : Judgement) : Bool :=
  match j with
  | .correct .ok v => v == uidLow16 s.candidateUid
  | _ => false

/-- The decision on the confirming PING: complete with the class absent, another ASSIGN while attempts remain, or the
final failure (R58, R59). -/
def State.decideConfirm (s : State) (a : Addr) (j : Judgement) : State × List Post :=
  if s.pingConfirms j then s.completeBind a none
  else if s.engine.attempt < s.engine.attemptLimit then (s.modEngine fun e => { e with state := .binding }, [])
  else s.failBind a

/-- The decision on a PARK answer (R61, R62). -/
def State.decidePark (s : State) (j : Judgement) : State × List Post :=
  match j with
  | .correct _ _ => s.parkAccepted
  | .absent | .garbled => if s.engine.attempt < s.engine.attemptLimit then (s, []) else s.failPark

/-- The engine's decision on the judged answer of a round's token (R82, R89). -/
def State.engineDecides (s : State) (kind : TxnKind) (j : Judgement) : State × List Post :=
  match kind, s.engine.chosen with
  | .assign, some a => s.decideAssign a j
  | .ping, some a => s.decideConfirm a j
  | .park, _ => s.decidePark j
  | _, _ => (s, [])

/-- The contention result (R52): empty (R53), fouled (R54), or a survivor, for whom the directory chooses an address
(R55). -/
def State.contentionResult (s : State) (u : Uid) : State × List Post :=
  if u = Config.uidAllOnes then (s.decideRound .plain, [])
  else if u = Config.uidAllZeros then (s.decideRound .fouled, [.notice .lineFault])
  else
    match s.chooseAddress u with
    | (s1, ps, some (a, path)) =>
      (s1.modEngine fun e => { e with candidate := some u, chosen := some a, path := path, state := .binding }, ps)
    | (s1, ps, none) =>
      (s1.modEngine fun e => { e with candidate := some u, chosen := none, state := .parking }, ps)

/-- ENUMERATE: the failure record is cleared, wanted set, and a HALTED or IDLE engine becomes WAITING; taken after a
fouled result whose round has still to end, it makes the round end as any other (R66). -/
def State.enumerated (s : State) : State :=
  s.modEngine fun e =>
    { e.clearFailure with
      wanted := true
      state := if e.state = .idle ∨ e.state = .halted then .waiting else e.state
      ending := e.ending.map fun _ => .plain }

/-- A line reset's part in the engine: any round is abandoned, the failure record cleared, wanted set, WAITING (R69). -/
def State.resetEngine (s : State) : State :=
  s.modEngine fun e => { e.clearFailure.clearRound with wanted := true, state := .waiting }

end Sys2Proof.Machine
end

