-- ==== Sys2Proof/Machine/Scheduler.lean ====
section
/-! DEFINITION. The line scheduler (Chapter 4): when the line is free, who is a candidate, the checks at grant, the
choice of a side and of a host, and the start of an attempt. -/

namespace Sys2Proof.Machine

open Sys2Proof

/-! ### Attempts (R81, R83) -/

/-- The attempt limit of a record as an attempt begins: attempt 1 reads the retry limit; a round's tokens have one (R81,
R82, R83). -/
def Txn.limitAtStart (t : Txn) (retryLimit : Nat) : Nat :=
  if t.owner = .identification then 1 else if t.attempt = 1 then retryLimit + 1 else t.limit

/-- The record as an attempt begins: the window is fixed, a READ's buffer emptied, at attempt 1 the limit fixed (R81). -/
def Txn.begun (t : Txn) (p : Params) : Txn :=
  { t with window := p.window, buffer := if t.kind = .read then [] else t.buffer, limit := t.limitAtStart p.retryLimit }

/-- An attempt begins: the controller enters COMMAND (R79, R81). -/
def State.beginAttempt (s : State) (t : Txn) : State :=
  { s with line := { s.line with state := .command, gap := none, start := .untold, record := some (t.begun s.config) } }

/-- The configured line rate taken up, at a grant or a reset hold (R27). -/
def State.takeRate (s : State) : State := { s with line := { s.line with rate := s.config.rate } }

/-- The token the engine names next goes on the line (R78, R82); ASSIGN and PARK attempts are counted (R56, R61). -/
def State.sendRoundToken (s : State) : State :=
  match s.engine.nextToken with
  | some t => (s.modEngine fun e => e.countAttempt s.config.retryLimit).beginAttempt t
  | none => s

/-! ### Candidates (R70, R71) -/

/-- The line is free: the controller is IDLE with no gap running, no transaction and no line reset in progress (R70). -/
def State.lineFree (s : State) : Bool :=
  !s.inReset && s.line.state == .idle && s.line.gap.isNone && s.line.record.isNone && s.line.reset.isNone

/-- A host's slot is a candidate while it holds a request that has not been granted (R71). -/
def Port.candidate (p : Port) : Bool :=
  match p.slot with
  | some sl => !sl.granted
  | none => false

/-- The system side waits: the engine WAITING, a poll due, or a pass with an entry to ping (R71, R73). -/
def State.systemWaits (s : State) : Bool :=
  s.engine.state == .waiting || s.duePoll.isSome || s.sweepNext.isSome

/-- The hosts in the order they are considered: from the one after the rotation pointer (R75). -/
def rotationOrder (p : HostId) : List HostId := [p + 1, p + 2, p + 3, p]

/-- The host the rotation chooses: the first whose slot is a candidate (R75). -/
def State.nextHost (s : State) : Option HostId := (rotationOrder s.sched.rotation).find? fun h => (s.port h).candidate

/-! ### The checks of a line request (R76, R94) -/

/-- The answer to the handle, claim and deferred checks of a line request (R76, R94). -/
inductive AccessCheck where
  | pass (a : Addr)
  | stale
  | held (holder : HostId)
  | deferred
deriving DecidableEq, Repr

/-- The three checks in their order: handle current, claim, no deferred record (R76, R94 checks 3 to 5). -/
def State.checkAccess (s : State) (h : HostId) (hd : Handle) : AccessCheck :=
  match s.checkHandle hd with
  | .malformed | .stale => .stale
  | .current a =>
    match (s.entry a).claim with
    | some c => if c.holder ≠ h then .held c.holder else if (s.entry a).deferred.isSome then .deferred else .pass a
    | none => if (s.entry a).deferred.isSome then .deferred else .pass a

/-- The reply to a line request that fails a check, with attempts made 0 (R94, R97, R98). -/
def refusedAccess (h : HostId) (tag : Tag) (kind : LineKind) : AccessCheck → List Post
  | .pass _ => []
  | .stale => [.reply h tag (lineKindCode kind) .stale (attemptsQualifier 0 false) .empty]
  | .held holder => [.reply h tag (lineKindCode kind) .held (attemptsQualifier 0 false) (.heldBy holder)]
  | .deferred => [.reply h tag (lineKindCode kind) .busy (attemptsQualifier 0 false) (.busy .deferred)]

/-! ### Grants (R72 to R78) -/

/-- The kind of a line request's transaction. -/
def LineKind.txn : LineKind → TxnKind
  | .read => .read | .write => .write | .ping => .ping

/-- The record of a host's request (R78). -/
def hostTxn (h : HostId) (a : Addr) (r : LineRequest) : Txn :=
  newTxn r.kind.txn (addr6 a)
    (match r.kind with
     | .read | .write => accessArgument r.index r.length
     | .ping => 0)
    (.host h) r.tag (if r.kind = .write then r.data else [])

/-- The scheduler's pointers replaced. -/
def State.setSide (s : State) (side : Side) : State := { s with sched := { s.sched with side := side } }
def State.setRotation (s : State) (h : HostId) : State := { s with sched := { s.sched with rotation := h } }

/-- Host `h`'s slot replaced. -/
def State.setSlot (s : State) (h : HostId) (sl : Option Slot) : State := s.setPort h { s.port h with slot := sl }

/-- A grant to the system side: the engine, else the poller, else the sweep; the side pointer becomes HOST (R73, R74). -/
def State.grantSystem (s : State) : State :=
  let s := (s.setSide .host).takeRate
  if s.engine.state = .waiting then s.startRound.sendRoundToken
  else
    match s.duePoll with
    | some a =>
      let e := s.entry a
      (s.setEntry a { e with deferred := e.deferred.map fun d => { d with phase := .polling } }).beginAttempt
        (newTxn .status (addr6 a) 0 .poller 0 [])
    | none =>
      match s.sweepNext with
      | some a => { s with sweep := { s.sweep with cursor := a } }.beginAttempt (newTxn .ping (addr6 a) 0 .sweep 0 [])
      | none => s

/-- A grant that passed its checks goes to host `h`'s slot; the side pointer becomes SYSTEM (R73, R76, R78). -/
def State.grantHost (s : State) (h : HostId) (a : Addr) (r : LineRequest) : State :=
  (((s.setSlot h (some ⟨r, true⟩)).setSide .system).takeRate).beginAttempt (hostTxn h a r)

/-- The scheduler's choice on a free line (R73 to R76). A host slot that fails its check is answered and emptied, and
the scheduler chooses again in the same event; four slots at most can fail, so five rounds of choice are enough. -/
def State.choose : Nat → State → State
  | 0, s => s
  | fuel + 1, s =>
    match s.nextHost with
    | some h =>
      if s.systemWaits && s.sched.side == .system then s.grantSystem
      else
        let s1 := s.setRotation h
        match (s1.port h).slot with
        | some sl =>
          match s1.checkAccess h sl.req.handle with
          | .pass a => s1.grantHost h a sl.req
          | c => State.choose fuel ((s1.setSlot h none).postAll (refusedAccess h sl.req.tag sl.req.kind c))
        | none => s1
    | none => if s.systemWaits then s.grantSystem else s

/-- A grant in the event that brings a free line and a candidate together (R70). -/
def State.grant (s : State) : State := if s.lineFree then State.choose 5 s else s

end Sys2Proof.Machine
end

