-- ==== Sys2Proof/Machine/Transactions.lean ====
section
/-! DEFINITION. The line controller's transactions (Chapter 4): the results of attempts, the outcome, and its delivery to
the directory and the owner. -/

namespace Sys2Proof.Machine

open Sys2Proof

/-! ### Failure marks (R86) -/

/-- The order of the failure marks (R86). -/
def FailMark.rank : FailMark → Nat
  | .clear => 0 | .noAnswer => 1 | .checkFailed => 2 | .burstFailed => 3

/-- The mark raised to an attempt's failure if that is higher (R86). -/
def FailMark.raise (m n : FailMark) : FailMark := if m.rank < n.rank then n else m

/-- The outcome of a transaction whose last attempt failed (R86). -/
def FailMark.outcome : FailMark → TxnOutcome
  | .clear | .noAnswer => .noAnswer
  | .checkFailed => .checkFailed
  | .burstFailed => .burstFailed

/-! ### Replies of line requests (R88, R98) -/

/-- The request code a host's transaction answers. -/
def Txn.requestCode (t : Txn) : Byte :=
  match t.kind with
  | .read => codeRead
  | .write => codeWrite
  | _ => codePing

/-- The bytes a DONE carries (R98): READ the buffer, WRITE the length, PING the value and the match flag, set when the
value equals the low 16 bits of the uid the entry holds (R106). -/
def doneBody (t : Txn) (value : BitVec 16) (uid : Option Uid) : ReplyBody :=
  match t.kind with
  | .read => .readData t.buffer
  | .write => .written (argLength t.argument)
  | _ => .pinged value (uid.map uidLow16 == some value)

/-- The reply an outcome becomes (R88, R98); none for a write receipt with status PEND. -/
def hostReply (t : Txn) (o : TxnOutcome) (uid : Option Uid) : Option (ReplyOutcome × ReplyBody) :=
  match o with
  | .answered .ok v _ => some (.done, doneBody t v uid)
  | .answered .pend v point =>
    if t.kind = .read ∨ t.kind = .write then
      if point = .receipt then none else some (.busy, .busy .module)
    else some (.refused, .refused .pend v point)
  | .answered st v point => some (.refused, .refused st v point)
  | .noAnswer => some (.noAnswer, .empty)
  | .checkFailed => some (.checkFailed, .checkFailed .answer)
  | .burstFailed => some (.checkFailed, .checkFailed .burst)
  | .receiptMissing j => some (.uncertain, .uncertain j)
  | .aborted => some (.aborted, .empty)

/-! ### Delivery (R87 to R90) -/

/-- The assignable address a record names; none for 0 and 63. -/
def Txn.entryAddr (t : Txn) : Option Addr := addrOfNat t.address.toNat

/-- The directory's part of a delivery: transactions to 0 and 63 reach no entry (R6). -/
def State.directoryTakes (s : State) (t : Txn) (o : TxnOutcome) : State × List Post :=
  match t.entryAddr with
  | some a => s.applyOutcome a o t.attempt
  | none => (s, [])

/-- The uid held at delivery by the entry a record names (R106). -/
def State.uidAt (s : State) (t : Txn) : Option Uid := t.entryAddr.bind fun a => (s.entry a).uid

/-- A PEND receipt's deferred record on the entry the record names; its owner is none when the reply is dropped (R90,
R104). -/
def State.createDeferred (s : State) (h : HostId) (t : Txn) : State :=
  match t.entryAddr with
  | some a =>
    s.setEntry a { s.entry a with
      deferred := some (s.newDeferred (if t.replyDropped then none else some h) t.tag (argLength t.argument)) }
  | none => s

/-- Delivery to host `h`: the reply, unless it is dropped, stands before the directory's items; a PEND receipt makes a
deferred record; the slot is emptied (R87, R88, R90). -/
def State.deliverHost (s : State) (h : HostId) (t : Txn) (o : TxnOutcome) : State :=
  let (s1, ps) := s.directoryTakes t o
  let s2 := s1.setSlot h none
  match hostReply t o (s1.uidAt t) with
  | none => (s2.createDeferred h t).endIdlePass.postAll ps
  | some (ro, b) =>
    let own := if t.replyDropped then [] else [.reply h t.tag t.requestCode ro (attemptsQualifier t.attempt false) b]
    s2.endIdlePass.postAll (own ++ ps)

/-- The poller's action on the record at `a` for a STATUS outcome (R112, R113): the record that stays, if any, and the
item that ends it. -/
def State.pollEnds (s : State) (d : Deferred) (o : TxnOutcome) (attempts : Nat) : Option Deferred × List Post :=
  match o with
  | .answered .ok _ _ => (none, d.reply .done attempts (.deferredDone d.length d.polls))
  | .answered .pend _ _ => s.continuePoll { d with polls := d.polls + 1 } attempts
  | .answered st v _ => (none, d.reply .refused attempts (.deferredRefused st v d.polls))
  | .noAnswer | .checkFailed => s.continuePoll d attempts
  | .burstFailed | .receiptMissing _ | .aborted => (some d, [])

/-- Delivery to the poller: the directory first; a record it has ended is not found and nothing more happens (R89, R112,
R114). The poller's item stands before the directory's (R87). -/
def State.deliverPoller (s : State) (t : Txn) (o : TxnOutcome) : State :=
  let (s1, ps) := s.directoryTakes t o
  match t.entryAddr with
  | some a =>
    match (s1.entry a).deferred with
    | some d =>
      let (d1, qs) := s1.pollEnds d o t.attempt
      (s1.setEntry a { s1.entry a with deferred := d1 }).endIdlePass.postAll (qs ++ ps)
    | none => s1.endIdlePass.postAll ps
  | none => s1.postAll ps

/-- Delivery to the sweep: the directory first, then the pass advances (R142, R143). -/
def State.deliverSweep (s : State) (t : Txn) (o : TxnOutcome) : State :=
  let (s1, ps) := s.directoryTakes t o
  match t.entryAddr with
  | some a => ((s1.advanceSweep a).endIdlePass).postAll ps
  | none => s1.postAll ps

/-- Delivery of an outcome in the event that forms it (R87, R89). The tokens of a round reach no entry and are judged by
the engine alone (R6, R82). -/
def State.deliver (s : State) (t : Txn) (o : TxnOutcome) : State :=
  match t.owner with
  | .host h => s.deliverHost h t o
  | .poller => s.deliverPoller t o
  | .sweep => s.deliverSweep t o
  | .identification => s

/-! ### Attempts that end (R79, R83 to R86) -/

/-- The controller goes to IDLE and a gap of `g` bit times begins, with the record that goes on, if any (R29, R79). -/
def State.toGap (s : State) (g : Nat) (t : Option Txn) : State :=
  { s with line := { s.line with state := .idle, gap := some g, start := .untold, record := t } }

/-- The transaction ends: its outcome is delivered and the gap begins (R86, R87). -/
def State.finish (s : State) (t : Txn) (o : TxnOutcome) (g : Nat) : State := (s.toGap g none).deliver t o

/-- An attempt has failed: another follows after the gap while attempts remain, else the failure mark gives the outcome
(R83, R86). -/
def State.attemptFails (s : State) (t : Txn) (m : FailMark) (g : Nat) : State :=
  let t1 := { t with mark := t.mark.raise m }
  if t.attempt < t.limit then s.toGap g (some t1) else s.finish t1 t1.mark.outcome g

/-- The controller's next state, the transaction going on. -/
def State.toLineState (s : State) (l : LineState) : State := { s with line := { s.line with state := l } }

/-- The bit times an event of the line took. -/
def State.addBits (s : State) (n : Nat) : State := { s with line := { s.line with bitTimes := s.line.bitTimes + n } }

/-- The answer of a round's token is judged: the engine decides, and the gap begins (R82). -/
def State.roundAnswer (s : State) (t : Txn) (j : Judgement) : State :=
  let (s1, ps) := (s.toGap Config.gapBits none).engineDecides t.kind j
  s1.endIdlePass.postAll ps

/-- The answer of a host's, the poller's or the sweep's transaction is judged (R83 to R85). The gap after a garbled READ
answer is the long one (R29). -/
def State.accessAnswer (s : State) (t : Txn) (j : Judgement) : State :=
  match j with
  | .absent => s.attemptFails t .noAnswer Config.gapBits
  | .garbled => s.attemptFails t .checkFailed (if t.kind = .read then Config.longGapBits else Config.gapBits)
  | .correct st v =>
    match t.kind, st with
    | .read, .ok => s.toLineState .burstIn
    | .write, .ok => s.toLineState .burstOut
    | _, _ => s.finish t (.answered st v .command) Config.gapBits

/-- An answer token is judged (R36, R83). -/
def State.answerJudged (s : State) (t : Txn) (j : Judgement) : State :=
  if t.owner = .identification then s.roundAnswer t j else s.accessAnswer t j

/-- A receipt is judged: a correct one ends the transaction ANSWERED, an absent or garbled one RECEIPT_MISSING (R84). -/
def State.receiptIs (s : State) (t : Txn) (j : Judgement) : State :=
  match j with
  | .correct st v => s.finish t (.answered st v .receipt) Config.gapBits
  | .absent => s.finish t (.receiptMissing .absent) Config.gapBits
  | .garbled => s.finish t (.receiptMissing .garbled) Config.gapBits

end Sys2Proof.Machine
end

