-- ==== Sys2Proof/Machine/Flags.lean ====
section
/-! DEFINITION. Outputs and flags that the state determines: HATNn, FCK, what the controller drives on FDA, HDOn, the
halted flag (Sections 10.11, 2.1, 11.1). -/

namespace Sys2Proof.Machine

open Sys2Proof

/-- HATNn is asserted while the outbound queue holds an item (R159), and never in power-on reset (R169) or while HRSTn
is low (R165). -/
def State.hatn (s : State) (h : HostId) : Bool :=
  !s.inReset && !(s.port h).held && !(s.port h).outbound.isEmpty

/-- Byte `i` that port `h` drove in the last exchange it took: the code and the item, then 0xFF (Section 12.1). -/
def State.hdoByte (s : State) (h : HostId) (i : Nat) : Byte := (s.port h).hdo.getD i 0xFF

/-- FCK: none while PORn holds it low, else the rate at which it runs (R27). -/
def State.fck (s : State) : Option Rate := if s.inReset then none else some s.line.rate

/-- What the controller puts on FDA. -/
inductive FdaDrive where
  | released
  | low
  | token (bits : BitVec 38)
  | burst (bits : List Bool)
deriving DecidableEq, Repr

/-- What the controller drives on FDA in the present state (R27, R32, R79). -/
def State.fda (s : State) : FdaDrive :=
  if s.inReset then .released
  else
    match s.line.state, s.line.reset, s.line.record with
    | .command, some _, none => .token resetToken
    | .command, _, some t => .token t.token
    | .burstOut, _, some t => .burst (burstFrame t.buffer)
    | .resetHold, some lr, _ => if lr.phase = .hold then .low else .released
    | _, _, _ => .released

/-- The halted flag of SETTINGS (R168). -/
def State.haltedFlag (s : State) : Bool := s.engine.state == .halted

end Sys2Proof.Machine
end

