-- ==== Sys2Proof/Machine/LineReset.lean ====
section
/-! DEFINITION. The line reset (Sections 11.3 and 2.5): its beginning, joining it, the cut and the hold, the wait, the
RESET token; and the commands LINE_RESET, RESET_HOLD_START, RESET_HOLD_END, RESET_WAIT_END, RESET_TOKEN_SENT. -/

namespace Sys2Proof.Machine

open Sys2Proof

/-- The items that the beginning of a line reset places before its notice, in the order of R170: ABORTED to waiting
CLAIMs, ABORTED of deferred records, CLAIM_REVOKED, each group in ascending order of address. -/
def State.lineResetItems (s : State) : List Post :=
  allAddrs.flatMap (fun a => (s.entry a).waitersEnd .aborted) ++
  allAddrs.flatMap (fun a => (s.entry a).deferredAborted .lineReset 0) ++
  allAddrs.flatMap (fun a => (s.entry a).holderRevoked a .lineReset)

/-- A line reset's part in the sweep (R143). -/
def State.resetSweep (s : State) : State := { s with sweep := { s.sweep with active := false, cursor := 0 } }

/-- The beginning of a line reset, one event in every block (R170). The cut falls at the next bit boundary (R171). -/
def State.beginLineReset (s : State) (reason : ResetReason) (requesters : List Requester) : State :=
  let s1 := s.resetDirectory.resetEngine.resetSweep
  let s2 := { s1 with line := { s1.line with reset := some ⟨.cutPending, reason, requesters⟩ } }
  s2.postAll (s.lineResetItems ++ [.notice (.lineReset reason)])

/-- A LINE_RESET joins the line reset in progress: no notice, and its reply comes with that reset's RESET token (R172). -/
def State.joinLineReset (s : State) (lr : LineReset) (h : HostId) (tag : Tag) : State :=
  { s with line := { s.line with reset := some { lr with requesters := lr.requesters ++ [⟨h, tag, true⟩] } } }

/-- A LINE_RESET that has passed its checks begins a line reset or joins the one in progress (R172). The reset is in
progress from its beginning to the end bit of its RESET token; the gap after it is not part of it. -/
def State.requestLineReset (s : State) (h : HostId) (tag : Tag) : State :=
  match s.line.reset with
  | some lr => s.joinLineReset lr h tag
  | none => s.beginLineReset (.requested h) [⟨h, tag, false⟩]

/-- LINE_RESET (R172): a managing request without a body. -/
def execLineReset (h : HostId) (s : State) : Result :=
  takeRequest h (fun r => r.code == codeLineReset)
    (shaped h (managing h fun r s => s.requestLineReset h r.tag)) s

/-- Whether a line reset has begun whose cut has not fallen: no event of the line comes before it (R171). -/
def State.cutPending (s : State) : Bool :=
  match s.line.reset with
  | some lr => lr.phase == .cutPending
  | none => false

/-- The line reset's phase replaced. -/
def State.setResetPhase (s : State) (lr : LineReset) (p : ResetPhase) : State :=
  { s with line := { s.line with reset := some { lr with phase := p } } }

/-- The cut and the start of the hold: the controller leaves whatever state it is in, takes up the configured rate, and
the transaction in progress ends ABORTED (R27, R32, R91, R171). -/
def State.cut (s : State) (lr : LineReset) : State :=
  let s1 := { s with line := { s.line with state := .resetHold, gap := none, start := .untold, record := none,
                                           rate := s.config.rate, reset := some { lr with phase := .hold } } }
  match s.line.record with
  | some t => s1.deliver t .aborted
  | none => s1

/-- A meaning that runs while PORn is not asserted (R169). -/
def running (s : State) (r : Result) : Result := if s.inReset then .refused .inPowerOnReset else r

/-- RESET_HOLD_START (R32, R91): at the bit boundary after a line reset begins. -/
def execResetHoldStart (s : State) : Result :=
  running s <|
    match s.line.reset with
    | some lr => if lr.phase = .cutPending then .next (s.cut lr) else .refused .lineNotInThatState
    | none => .refused .lineNotInThatState

/-- RESET_HOLD_END (R32): FDA has been low for 64 bit times and is released. -/
def execResetHoldEnd (s : State) : Result :=
  running s <|
    match s.line.reset with
    | some lr =>
      if lr.phase = .hold then .next ((s.setResetPhase lr .wait).addBits Config.holdBits)
      else .refused .lineNotInThatState
    | none => .refused .lineNotInThatState

/-- RESET_WAIT_END (R32): a quiet line, or 600 bit times, and the controller enters COMMAND for the RESET token. -/
def execResetWaitEnd (waited : Nat) (s : State) : Result :=
  running s <|
    if ¬ (Config.quietBits ≤ waited ∧ waited ≤ Config.holdWaitLimit) then .refused .operandOutOfRange
    else
      match s.line.reset with
      | some lr =>
        if lr.phase = .wait then .next (((s.setResetPhase lr .token).toLineState .command).addBits waited)
        else .refused .lineNotInThatState
      | none => .refused .lineNotInThatState

/-- The replies to the requests that began or joined a line reset, in the order of their takes (R172). -/
def LineReset.replies (lr : LineReset) : List Post :=
  lr.requesters.map fun q => .reply q.host q.tag codeLineReset .done 0 (.joined q.joined)

/-- The RESET token is sent: the line reset is over, the gap begins, and its requesters are answered (R171, R172). -/
def State.resetSent (s : State) (lr : LineReset) : State :=
  let s1 := (s.toGap Config.gapBits none).addBits Config.commandTokenBits
  { s1 with line := { s1.line with reset := none } }.postAll lr.replies

/-- RESET_TOKEN_SENT (R171, R172). -/
def execResetTokenSent (s : State) : Result :=
  running s <|
    match s.line.reset with
    | some lr => if lr.phase = .token then .next (s.resetSent lr) else .refused .lineNotInThatState
    | none => .refused .lineNotInThatState

end Sys2Proof.Machine
end

