-- ==== Sys2Proof/Machine/ClaimRequests.lean ====
section
/-! DEFINITION. The claim requests (Sections 7.2 and 7.3): CLAIM, RENEW, RELEASE, REVOKE. -/

namespace Sys2Proof.Machine

open Sys2Proof

/-- The handle that a reply of the claim unit begins with (R121, Section 12.3): the body's first two bytes. A body too
short to carry them leaves a byte that the manual does not state: a free value (notes/assumptions/5.md). -/
def carriedHandle (freeIndex : Nat) : List Byte → Handle
  | a :: g :: _ => ⟨a, g⟩
  | [a] => ⟨a, Config.missingHandleByte (freeIndex + 1)⟩
  | [] => ⟨Config.missingHandleByte freeIndex, Config.missingHandleByte (freeIndex + 1)⟩

/-- The state after a free value has been read for a body of this length. -/
def State.useFree (s : State) (n : Nat) : State := if n < 2 then { s with freeIndex := s.freeIndex + 2 } else s

/-- A reply of the claim unit at a take: the handle carried, then what the outcome adds (R121). -/
def State.answerClaim (s : State) (h : HostId) (r : Request) (o : ReplyOutcome) (b : ClaimBody) : State :=
  (s.useFree r.body.length).answer h r o (.claim (carriedHandle s.freeIndex r.body) b)

/-- The shape check of a claim request (R154). -/
def shapedClaim (h : HostId) (act : Request → State → State) (r : Request) (s : State) : State :=
  if bodyFits r.code r.body.length then act r s else s.answerClaim h r .invalid .nothing

/-- Checks 2 to 4 of R121, in their order: the handle's address, the arguments, the handle current. -/
def claimChecked (h : HostId) (argsOk : Request → Bool) (act : Addr → Request → State → State) (r : Request)
    (s : State) : State :=
  match s.checkHandle (bodyHandle r) with
  | .malformed => s.answerClaim h r .invalid .nothing
  | .stale => if argsOk r then s.answerClaim h r .stale .nothing else s.answerClaim h r .invalid .nothing
  | .current a => if argsOk r then act a r s else s.answerClaim h r .invalid .nothing

/-- A lease is 1 to 65535 (R121 check 3); a wait of 0 to 65535 fills its field. -/
def leaseOk (r : Request) : Bool := decide (1 ≤ leaseField r)

/-- The entry's claim record replaced. -/
def State.setClaim (s : State) (a : Addr) (c : Claim) : State := s.setEntry a { s.entry a with claim := some c }

/-! ### CLAIM (R122, R123) -/

/-- The wait item that a CLAIM becomes (R123). -/
def State.waitItem (s : State) (h : HostId) (r : Request) : WaitItem :=
  { host := h, tag := r.tag, handle := bodyHandle r, lease := leaseField r, expires := s.time + waitField r }

/-- A CLAIM that met another host's claim: HELD without a wait, INVALID beside an earlier wait item of the host, else a
wait item at the newest end and no reply yet (R122, R123). -/
def claimHeld (h : HostId) (a : Addr) (c : Claim) (r : Request) (s : State) : State :=
  if waitField r = 0 then s.answerClaim h r .held (.holder (some c.holder))
  else if c.waits.any fun w => w.host == h then s.answerClaim h r .invalid .nothing
  else s.setClaim a { c with waits := c.waits ++ [s.waitItem h r] }

/-- CLAIM decided against the entry's record at the take (R122). -/
def claimRequest (h : HostId) (a : Addr) (r : Request) (s : State) : State :=
  match (s.entry a).claim with
  | none =>
    (s.setClaim a { holder := h, expires := s.time + leaseField r, waits := [] }).answerClaim h r .granted
      (.granted (leaseField r) false)
  | some c =>
    if c.holder = h then
      (s.setClaim a { c with expires := s.time + leaseField r }).answerClaim h r .granted (.granted (leaseField r) false)
    else claimHeld h a c r s

/-- CLAIM (R121, R122). -/
def execClaim (h : HostId) (s : State) : Result :=
  takeRequest h (fun r => r.code == codeClaim) (shapedClaim h (claimChecked h leaseOk (claimRequest h))) s

/-! ### RENEW (R125) -/

/-- RENEW decided (R125). -/
def renewRequest (h : HostId) (a : Addr) (r : Request) (s : State) : State :=
  match (s.entry a).claim with
  | some c =>
    if c.holder = h then
      (s.setClaim a { c with expires := s.time + leaseField r }).answerClaim h r .done (.renewed (leaseField r))
    else s.answerClaim h r .notHolder (.holder (some c.holder))
  | none => s.answerClaim h r .notHolder (.holder none)

/-- RENEW (R121, R125). -/
def execRenew (h : HostId) (s : State) : Result :=
  takeRequest h (fun r => r.code == codeRenew) (shapedClaim h (claimChecked h leaseOk (renewRequest h))) s

/-! ### RELEASE (R126) -/

/-- RELEASE decided; DONE stands before the next holder's GRANTED (R124, R126). -/
def releaseRequest (h : HostId) (a : Addr) (r : Request) (s : State) : State :=
  match (s.entry a).claim with
  | some c =>
    if c.holder = h then
      let (s1, ps, handover) := s.handOver a c.waits
      (s1.answerClaim h r .done (.released handover)).postAll ps
    else s.answerClaim h r .notHolder (.holder (some c.holder))
  | none => s.answerClaim h r .notHolder (.holder none)

/-- RELEASE (R121, R126). -/
def execRelease (h : HostId) (s : State) : Result :=
  takeRequest h (fun r => r.code == codeRelease) (shapedClaim h (claimChecked h (fun _ => true) (releaseRequest h))) s

/-! ### REVOKE (R127) -/

/-- REVOKE decided: DONE, then CLAIM_REVOKED to the old holder, then the next holder's GRANTED (R124, R127). -/
def revokeRequest (h : HostId) (a : Addr) (r : Request) (s : State) : State :=
  match (s.entry a).claim with
  | some c =>
    let (s1, ps, handover) := s.handOver a c.waits
    (s1.answerClaim h r .done (.revoked c.holder handover)).postAll ((s.entry a).holderRevoked a .revoked ++ ps)
  | none => s.answerClaim h r .notHolder (.holder none)

/-- The manage check of REVOKE (R121 check 1, R155); its DENIED begins with the handle (R121). -/
def managingClaim (h : HostId) (act : Request → State → State) (r : Request) (s : State) : State :=
  if (s.port h).manage then act r s else s.answerClaim h r .denied .nothing

/-- REVOKE (R121, R127). -/
def execRevoke (h : HostId) (s : State) : Result :=
  takeRequest h (fun r => r.code == codeRevoke)
    (shapedClaim h (managingClaim h (claimChecked h (fun _ => true) (revokeRequest h)))) s

end Sys2Proof.Machine
end

