-- ==== Sys2Proof/Machine/Control.lean ====
section
/-! DEFINITION. The control requests: ENUMERATE (R66), SUBSCRIBE (R147), SETTINGS (R168) and the forms of CONFIGURE
(R166, R167). -/

namespace Sys2Proof.Machine

open Sys2Proof

/-- ENUMERATE (R66): answered DONE at once; a WAITING engine on a free line is granted (R70). -/
def execEnumerate (h : HostId) (s : State) : Result :=
  takeRequest h (fun r => r.code == codeEnumerate)
    (shaped h fun r s => (s.enumerated.answer h r .done .empty).grant) s

/-- SUBSCRIBE decided: a position beyond the nine maskable kinds is INVALID, else the mask is replaced (R147). -/
def subscribeRequest (h : HostId) (r : Request) (s : State) : State :=
  let m := bodyWord r 0
  if m.toNat < 512 then
    (s.setPort h { s.port h with mask := m.setWidth 9 }).answer h r .done (.masks (s.port h).mask (m.setWidth 9))
  else s.answer h r .invalid .empty

/-- SUBSCRIBE (R147). -/
def execSubscribe (h : HostId) (s : State) : Result :=
  takeRequest h (fun r => r.code == codeSubscribe) (shaped h (subscribeRequest h)) s

/-- SETTINGS (R168). -/
def execSettings (h : HostId) (s : State) : Result :=
  takeRequest h (fun r => r.code == codeSettings)
    (shaped h fun r s => s.answer h r .done (.settings s.config (s.port h).manage s.haltedFlag)) s

/-! ### CONFIGURE (R166, R167) -/

/-- A CONFIGURE of one parameter that has passed the manage check: its range, then the new value, then DONE with the
value before and the value now (R167). -/
def configure (h : HostId) (inRange : Nat → Bool) (before : Params → Nat) (set : Nat → State → State)
    (r : Request) (s : State) : State :=
  let v := configValue r
  if inRange v then
    (set v s).answer h r .done (.configured (bodyByte r 0) (wordOf (before s.config)) (wordOf v))
  else s.answer h r .invalid .empty

/-- The take of a CONFIGURE whose parameter code is `p` (R154, R155, R167). -/
def takeConfigure (h : HostId) (p : Byte) (inRange : Nat → Bool) (before : Params → Nat) (set : Nat → State → State)
    (s : State) : Result :=
  takeRequest h (configures p) (shaped h (managing h (configure h inRange before set))) s

/-- The store with a parameter changed. -/
def State.modConfig (s : State) (f : Params → Params) : State := { s with config := f s.config }

/-- CONFIGURE of the line rate: one of four rate codes, taken up at the next grant or reset hold (R27, R167). -/
def execConfigureLineRate (h : HostId) (s : State) : Result :=
  takeConfigure h 1 (fun v => (rateOfCode v).isSome) (fun p => rateCode p.rate)
    (fun v s => s.modConfig fun p => { p with rate := (rateOfCode v).getD p.rate }) s

/-- CONFIGURE of the answer window, 8 to 255 bit times (R166). -/
def execConfigureAnswerWindow (h : HostId) (s : State) : Result :=
  takeConfigure h 2 (fun v => decide (8 ≤ v ∧ v ≤ 255)) (fun p => p.window)
    (fun v s => s.modConfig fun p => { p with window := v }) s

/-- CONFIGURE of the retry limit, 0 to 3 (R166). -/
def execConfigureRetryLimit (h : HostId) (s : State) : Result :=
  takeConfigure h 3 (fun v => decide (v ≤ 3)) (fun p => p.retryLimit)
    (fun v s => s.modConfig fun p => { p with retryLimit := v }) s

/-- CONFIGURE of the miss limit, 1 to 7, applied at once to the SUSPECT entries (R9, R166). -/
def execConfigureMissLimit (h : HostId) (s : State) : Result :=
  takeConfigure h 4 (fun v => decide (1 ≤ v ∧ v ≤ 7)) (fun p => p.missLimit)
    (fun v s => (s.modConfig fun p => { p with missLimit := v }).applyMissLimit v) s

/-- The sweep interval's effect on the interval timer: 0 stops it, another value starts a stopped one (R138). -/
def State.retimeSweep (s : State) (v : Nat) : State :=
  { s with sweep := { s.sweep with
      timer := if v = 0 then none else if s.sweep.timer.isNone then some (s.time + v) else s.sweep.timer } }

/-- CONFIGURE of the sweep interval, 0 or 20 to 60000 ms (R138, R166). -/
def execConfigureSweepInterval (h : HostId) (s : State) : Result :=
  takeConfigure h 5 (fun v => decide (v = 0 ∨ (20 ≤ v ∧ v ≤ 60000))) (fun p => p.sweepInterval)
    (fun v s => (s.modConfig fun p => { p with sweepInterval := v }).retimeSweep v) s

/-- CONFIGURE of the quarantine, 0 to 60000 ms (R166). -/
def execConfigureQuarantine (h : HostId) (s : State) : Result :=
  takeConfigure h 6 (fun v => decide (v ≤ 60000)) (fun p => p.quarantine)
    (fun v s => s.modConfig fun p => { p with quarantine := v }) s

/-- CONFIGURE of the poll interval, 1 to 1000 ms (R166). -/
def execConfigurePollInterval (h : HostId) (s : State) : Result :=
  takeConfigure h 7 (fun v => decide (1 ≤ v ∧ v ≤ 1000)) (fun p => p.pollInterval)
    (fun v s => s.modConfig fun p => { p with pollInterval := v }) s

/-- CONFIGURE of the poll limit, 1 to 4095 (R113, R166). -/
def execConfigurePollLimit (h : HostId) (s : State) : Result :=
  takeConfigure h 8 (fun v => decide (1 ≤ v ∧ v ≤ 4095)) (fun p => p.pollLimit)
    (fun v s => s.modConfig fun p => { p with pollLimit := v }) s

/-- CONFIGURE that names none of the eight parameters: INVALID, after the shape and manage checks (R154, R155, R167). -/
def execConfigureUnknownParameter (h : HostId) (s : State) : Result :=
  takeRequest h configuresUnknown (shaped h (managing h fun r s => s.answer h r .invalid .empty)) s

end Sys2Proof.Machine
end

