-- ==== Sys2Proof/Machine/DirectoryRequests.lean ====
section
/-! DEFINITION. The directory requests (Section 1.9): LIST, LOOKUP, RECALLS, FORGET. -/

namespace Sys2Proof.Machine

open Sys2Proof

/-- The directory record of the entry at `a`, as host `h` sees it (R21). -/
def State.dirRecord (s : State) (h : HostId) (a : Addr) : DirRecord :=
  let e := s.entry a
  { addr := a, gen := e.gen, state := e.state, cls := e.cls, uid := e.uid.getD 0, miss := e.miss,
    claimed := e.claim.isSome,
    claimedByAsker := match e.claim with
      | some c => c.holder == h
      | none => false
    deferredPending := e.deferred.isSome }

/-- The records LIST reports: entries that are not FREE from the starting address, ascending, at most 8 (R21). -/
def State.listRecords (s : State) (h : HostId) (start : Addr) : List DirRecord :=
  ((s.busyAddrs.filter fun a => decide (start ≤ a)).take Config.listLimit).map (s.dirRecord h)

/-- LIST decided (R21). -/
def listRequest (h : HostId) (r : Request) (s : State) : State :=
  match addrOfNat (bodyByte r 0).toNat with
  | none => s.answer h r .invalid .empty
  | some a => s.answer h r .done (.records (s.listRecords h a))

/-- LIST (R21). -/
def execList (h : HostId) (s : State) : Result :=
  takeRequest h (fun r => r.code == codeList) (shaped h (listRequest h)) s

/-- The position, counted from 1 at the oldest, of the recall record that holds the uid (R22). -/
def State.recallPosition (s : State) (u : Uid) : Nat := s.dir.recalls.findIdx (fun r => r.uid == u) + 1

/-- LOOKUP decided: the first case of R22 that matches. -/
def lookupRequest (h : HostId) (r : Request) (s : State) : State :=
  match s.holderOf (bodyUid r) with
  | some a =>
    s.answer h r .done (.lookup (.entry a (s.entry a).gen (s.entry a).state (s.entry a).cls))
  | none =>
    match s.recallOf (bodyUid r) with
    | some rec => s.answer h r .notFound (.lookup (.recalled rec.addr rec.gen (s.recallPosition (bodyUid r))))
    | none => s.answer h r .notFound (.lookup .unknown)

/-- LOOKUP (R22). -/
def execLookup (h : HostId) (s : State) : Result :=
  takeRequest h (fun r => r.code == codeLookup) (shaped h (lookupRequest h)) s

/-- RECALLS decided; the reply's qualifier carries the number of records the list holds (R23, Section 12.3). -/
def recallsRequest (h : HostId) (r : Request) (s : State) : State :=
  let pos := (bodyByte r 0).toNat
  if pos < Config.recallCapacity then
    s.answer h r .done (.recalls ((s.dir.recalls.drop pos).take Config.recallsLimit))
  else s.answer h r .invalid .empty

/-- RECALLS (R23). -/
def execRecalls (h : HostId) (s : State) : Result :=
  takeRequest h (fun r => r.code == codeRecalls) (shaped h (recallsRequest h)) s

/-- FORGET decided: the first case of R24 that matches. FREED follows the DONE reply (R149). -/
def forgetRequest (h : HostId) (r : Request) (s : State) : State :=
  let u := bodyUid r
  match s.recallOf u with
  | some _ => ((s.setRecalls (s.dir.recalls.filter fun x => x.uid ≠ u)).bumpSerial).answer h r .done .empty
  | none =>
    match s.holderOf u with
    | some a =>
      if (s.entry a).state = .lost then
        (((s.setEntry a (s.entry a).freed).bumpSerial.wantIfParked).answer h r .done .empty).post (.notice (.freed a false))
      else s.answer h r .invalid .empty
    | none => s.answer h r .notFound .empty

/-- FORGET (R24), a managing request. An entry it frees may make the engine WAITING on a free line (R16, R70). -/
def execForget (h : HostId) (s : State) : Result :=
  takeRequest h (fun r => r.code == codeForget) (shaped h (managing h fun r s => (forgetRequest h r s).grant)) s

end Sys2Proof.Machine
end

