-- ==== Sys2Proof/Machine/HostPorts.lean ====
section
/-! DEFINITION. The exchanges and the port reset (Chapter 10): the bytes of a select period, REQUEST, FETCH, CANCEL,
HOST_RESET, an unknown exchange, the edges of HRSTn, and the take of a request whose code names none. -/

namespace Sys2Proof.Machine

open Sys2Proof

/-- Whether port `h` takes exchanges: not in power-on reset (R169) and not while HRSTn holds the port (R165). -/
def State.takesExchanges (s : State) (h : HostId) : Bool := !s.inReset && !(s.port h).held

/-- An exchange with port `h`; a port that takes none ignores its select, so that nothing happens (R165, R169). -/
def exchange (h : HostId) (s : State) (act : State) : Result := if s.takesExchanges h then .next act else .next s

/-- What port `h` gives back in the exchange (R152). -/
def State.giveBack (s : State) (h : HostId) (bytes : List Byte) : State := s.setPort h { s.port h with hdo := bytes }

/-! ### Select periods (R152, Section 12.1) -/

/-- The REQUEST frame that the bytes after the exchange byte hold: request code, tag, body length L, L body bytes, check byte.
None where the select period ends before the check byte; bytes after it are ignored. -/
def requestFrame (h : HostId) : List Byte → Option Instr
  | code :: tag :: len :: tail => tail[len.toNat]?.map fun check => .request h code tag (tail.take len.toNat) check
  | _ => none

/-- The CANCEL frame: tag, check byte. -/
def cancelFrame (h : HostId) : List Byte → Option Instr
  | tag :: check :: _ => some (.cancel h tag check)
  | _ => none

/-- The bytes that a FETCH clocks out up to the point at which it is taken: ITEM and the oldest item, or EMPTY. -/
def Port.fetchLength (p : Port) (beganEmpty : Bool) : Nat :=
  match p.outbound with
  | [] => 1
  | i :: _ => if beganEmpty then 1 else 1 + (itemBytes i).length

/-- The exchange that the bytes the host clocks in during one select period of port `h` form: its first byte names it, and it is
taken at the point R152 gives. None where the period ends before that point: the exchange then has no effect. `beganEmpty` tells
whether the outbound queue was empty as the period began (R158). -/
def State.selectPeriod (s : State) (h : HostId) (beganEmpty : Bool) : List Byte → Option Instr
  | [] => none
  | first :: sent =>
    match exchangeOf first with
    | some .request => requestFrame h sent
    | some .fetch => if (s.port h).fetchLength beganEmpty ≤ sent.length then some (.fetch h beganEmpty) else none
    | some .cancel => cancelFrame h sent
    | some .hostReset => some (.hostReset h)
    | none => some (.unknownExchange h first)

/-! ### REQUEST (R153) -/

/-- The check byte of a REQUEST frame covers the code, the tag, the body length and the body (R173). -/
def requestCheck (code tag : Byte) (body : List Byte) : Byte := crc8Bytes (code :: tag :: byteOf body.length :: body)

/-- The code a REQUEST receives (R153). -/
def Port.requestCode (p : Port) (code tag : Byte) (body : List Byte) (check : Byte) : Byte :=
  if check ≠ requestCheck code tag body ∨ Config.maxBody < body.length then xMalformed
  else if Config.owedCapacity ≤ p.owed.length ∨ Config.outboundCapacity ≤ p.outbound.length + p.owed.length then xFull
  else if tag ∈ p.owed then xDuplicateTag
  else xAccepted

/-- An accepted request joins the queue at the newest end and its tag becomes owed (R153). -/
def Port.accept (p : Port) (r : Request) : Port := { p with queue := p.queue ++ [r], owed := p.owed ++ [r.tag] }

/-- REQUEST (R153). -/
def execRequest (h : HostId) (code tag : Byte) (body : List Byte) (check : Byte) (s : State) : Result :=
  let x := (s.port h).requestCode code tag body check
  let s1 := if x = xAccepted then s.setPort h ((s.port h).accept ⟨code, tag, body⟩) else s
  exchange h s (s1.giveBack h [x])

/-! ### FETCH (R158) -/

/-- The oldest item removed; a set overrun flag places an OVERRUN item at the newest end and is cleared (R158). -/
def Port.fetched (p : Port) (serial : BitVec 16) (rest : List Item) : Port :=
  if p.overrun then { p with outbound := rest ++ [.notice ⟨serial, .overrun⟩], overrun := false }
  else { p with outbound := rest }

/-- FETCH (R158): EMPTY when the queue was empty as the exchange began, else the oldest item. -/
def execFetch (h : HostId) (beganEmpty : Bool) (s : State) : Result :=
  exchange h s <|
    match (s.port h).outbound with
    | [] => s.giveBack h [xEmpty]
    | i :: rest =>
      if beganEmpty then s.giveBack h [xEmpty]
      else (s.setPort h ((s.port h).fetched s.dir.serial rest)).giveBack h (xItem :: itemBytes i)

/-! ### CANCEL (R161) -/

/-- Where a CANCEL finds its tag (R161). -/
inductive CancelCase where
  | queued | slotted | waiting | owed | replied | unknown
deriving DecidableEq, Repr

/-- Whether a slot holds an ungranted request with this tag. -/
def Port.slotHolds (p : Port) (t : Tag) : Bool :=
  match p.slot with
  | some sl => !sl.granted && sl.req.tag == t
  | none => false

/-- Whether an item is a reply with this tag. -/
def Item.repliesTo (i : Item) (t : Tag) : Bool :=
  match i with
  | .reply r => r.tag == t
  | .notice _ => false

/-- The first case of R161 that matches the tag. -/
def State.cancelCase (s : State) (h : HostId) (t : Tag) : CancelCase :=
  if (s.port h).queue.any fun r => r.tag == t then .queued
  else if (s.port h).slotHolds t then .slotted
  else if allAddrs.any fun a => (s.entry a).hasWait h t then .waiting
  else if t ∈ (s.port h).owed then .owed
  else if (s.port h).outbound.any fun i => i.repliesTo t then .replied
  else .unknown

/-- The tag leaves the owed set with no reply (R160, R161). -/
def Port.unowe (p : Port) (t : Tag) : Port := { p with owed := p.owed.erase t }

/-- What a CANCEL removes in each case, and the code it receives (R161). -/
def State.cancelled (s : State) (h : HostId) (t : Tag) : State × Byte :=
  let p := s.port h
  match s.cancelCase h t with
  | .queued => (s.setPort h ({ p with queue := p.queue.filter fun r => r.tag ≠ t }.unowe t), xCancelled)
  | .slotted => (s.setPort h ({ p with slot := none }.unowe t), xCancelled)
  | .waiting => ((s.mapEntries fun e => e.dropWait h t).setPort h (p.unowe t), xCancelled)
  | .owed | .replied => (s, xTooLate)
  | .unknown => (s, xNoSuchTag)

/-- CANCEL (R161): decided at its arrival by the phase it finds (R162). -/
def execCancel (h : HostId) (tag check : Byte) (s : State) : Result :=
  exchange h s <|
    if check ≠ crc8Bytes [tag] then s.giveBack h [xMalformed]
    else
      let (s1, x) := s.cancelled h tag
      s1.giveBack h [x]

/-! ### Port reset (R163, R164) -/

/-- A port reset's part in the line controller: the reply of the host's transaction on the line is dropped, and a
LINE_RESET of the host that awaits its RESET token is answered on no queue (R90, R164). -/
def State.dropLineReplies (s : State) (h : HostId) : State :=
  { s with line := { s.line with
      record := s.line.record.map fun t => if t.owner = .host h then { t with replyDropped := true } else t
      reset := s.line.reset.map fun lr => { lr with requesters := lr.requesters.filter fun q => q.host ≠ h } } }

/-- The port after its reset: a granted slot request stays, the manage flag and the pin are unaffected (R163). -/
def Port.afterReset (p : Port) : Port :=
  { slot := p.slot.filter fun sl => sl.granted, manage := p.manage, held := p.held, hdo := p.hdo }

/-- A reset of host port `h`, one event in every block that holds the host's work (R163, R164): the claim unit (R135),
the poller (R116), the line controller (R90), the port itself. GRANTED replies of the handovers go to other hosts. -/
def State.resetPort (s : State) (h : HostId) : State :=
  let (s1, ps) := s.resetClaims h
  let s2 := (s1.mapEntries fun e => e.disown h).dropLineReplies h
  (s2.setPort h (s2.port h).afterReset).postAll ps

/-- HOST_RESET (R163): the port is reset and clocks out DONE. -/
def execHostReset (h : HostId) (s : State) : Result := exchange h s ((s.resetPort h).giveBack h [xDone])

/-- UNKNOWN_EXCHANGE (R152): MALFORMED, and nothing else. -/
def execUnknownExchange (h : HostId) (first : Byte) (s : State) : Result :=
  if exchangeBytes.contains first then .refused .operandOutOfRange else exchange h s (s.giveBack h [xMalformed])

/-- HRSTn's level at the pin. -/
def State.setHeld (s : State) (h : HostId) (b : Bool) : State := s.setPort h { s.port h with held := b }

/-- HRSTN_FALL (R165): the port is reset as by HOST_RESET, gives nothing back, and is held. In power-on reset the edge
is the pin's alone. -/
def execHrstnFall (h : HostId) (s : State) : Result :=
  if (s.port h).held then .refused .pinHasThatLevel
  else if s.inReset then .next (s.setHeld h true)
  else .next (((s.resetPort h).giveBack h []).setHeld h true)

/-- HRSTN_RISE (R165): the port takes exchanges again. -/
def execHrstnRise (h : HostId) (s : State) : Result :=
  if (s.port h).held then .next (s.setHeld h false) else .refused .pinHasThatLevel

/-- INVALID_REQUEST_CODE (R154, R174): a code that names no request is answered INVALID, its kind the code as sent. -/
def execInvalidRequestCode (h : HostId) (s : State) : Result :=
  takeRequest h (fun r => !codeNamesRequest r.code) (fun r s => s.answer h r .invalid .empty) s

end Sys2Proof.Machine
end

