-- ==== Sys2Proof/Machine/LineEvents.lean ====
section
/-! DEFINITION. The events of the module line (Chapters 2 to 4): LINE_GAP_END, START_BIT_DEFERRAL_END, COMMAND_TOKEN_END,
ANSWER_WINDOW_EXPIRY, ANSWER_TOKEN_JUDGED, BURST_WINDOW_EXPIRY, READ_BURST_JUDGED, WRITE_BURST_END, RECEIPT_JUDGED,
CONTENTION_END, JOIN_PULSE_RECOGNISED. -/

namespace Sys2Proof.Machine

open Sys2Proof

/-- A line event of the transaction in progress: the controller in the state the event leaves, a record, and no cut
about to fall (R79, R171). -/
def onTxn (s : State) (from_ : LineState → Bool) (act : Txn → Result) : Result :=
  running s <|
    if s.cutPending || !from_ s.line.state then .refused .lineNotInThatState
    else
      match s.line.record with
      | some t => act t
      | none => .refused .lineNotInThatState

/-- A start bit seen in bit time `k` of the attempt's window (R36, R37). -/
def inWindow (t : Txn) (k : Nat) (r : Result) : Result :=
  if !bitTimeOk k then .refused .operandOutOfRange else if t.window < k then .refused .outsideWindow else r

/-! ### LINE_GAP_END (R29, R50, R70, R83) -/

/-- What follows the gap of a round: its end and then the line's next grant, or the token the engine names next; an
UNPARK is followed by SEEK (R50, R51). -/
def State.roundGapEnd (s : State) : State :=
  match s.engine.ending with
  | some how => (s.endRound how).grant
  | none =>
    (s.modEngine fun e => if e.state = .unparking then { e with state := .seeking } else e).sendRoundToken

/-- What follows a gap: the next attempt of the transaction, the round's next token, or a free line (R29, R70). -/
def State.gapEnd (s : State) : State :=
  match s.line.record with
  | some t => s.beginAttempt { t with attempt := t.attempt + 1 }
  | none => if s.engine.state.inRound then s.roundGapEnd else s.grant

/-- The gap is over. -/
def State.endGap (s : State) (g : Nat) : State :=
  { s with line := { s.line with gap := none, bitTimes := s.line.bitTimes + g } }

/-- LINE_GAP_END (R29). -/
def execLineGapEnd (s : State) : Result :=
  running s <|
    match s.line.gap with
    | some g =>
      if s.line.state = .idle ∧ s.line.reset = none then .next (s.endGap g).gapEnd
      else .refused .lineNotInThatState
    | none => .refused .lineNotInThatState

/-! ### Command tokens (R29, R79) -/

/-- Whether a deferral of `low` low and `high` released bit times in a row ends at the last of the levels that FDA shows
from then on, and not before: when it has been released for 2 bit times in a row or low for 24 in a row (R29). A deferral
begins with both counts at 0: on a line held low it lasts 24 bit times of its own (R29, R171). -/
def deferralEnds : Nat → Nat → List Bool → Bool
  | _, _, [] => false
  | low, high, fda :: later =>
    let low := if fda then 0 else low + 1
    let high := if fda then high + 1 else 0
    if Config.deferralHigh ≤ high ∨ Config.deferralLow ≤ low then later.isEmpty else deferralEnds low high later

/-- Whether a start bit can still be waiting for a deferral with these levels to end. -/
def StartBit.admits (b : StartBit) (levels : List Bool) : Bool :=
  match b with
  | .untold => true
  | .deferred low => levels.take low == List.replicate low false
  | .sent => false

/-- The state with what is known of the start bit replaced. -/
def State.setStart (s : State) (b : StartBit) : State := { s with line := { s.line with start := b } }

/-- START_BIT_DEFERRAL_END (R29): the deferred start bit of the token is sent. -/
def execStartBitDeferralEnd (levels : List Bool) (s : State) : Result :=
  running s <|
    if !deferralEnds 0 0 levels then .refused .operandOutOfRange
    else if s.cutPending || s.line.state != .command || !s.line.start.admits levels then .refused .lineNotInThatState
    else .next ((s.setStart .sent).addBits levels.length)

/-- Whether the start bit is known to be waiting still, so that the token cannot have ended (R29, R30). -/
def StartBit.waits (b : StartBit) : Bool :=
  match b with
  | .deferred _ => true
  | .untold | .sent => false

/-- The end bit of a transaction's token (R79): UNPARK's attempt ends and the parked count is replaced by 0 (R51); SEEK
is followed by contention; every other command awaits an answer. -/
def State.tokenEnd (s : State) (t : Txn) : State :=
  match t.kind with
  | .unpark => (s.setParked 0).toGap Config.gapBits none
  | .seek => s.toLineState .contention
  | _ => s.toLineState .answerWait

/-- COMMAND_TOKEN_END (R79). -/
def execCommandTokenEnd (s : State) : Result :=
  onTxn s (fun l => l == .command) fun t =>
    if s.line.start.waits then .refused .lineNotInThatState
    else .next ((s.addBits Config.commandTokenBits).tokenEnd t)

/-! ### Answers (R36) -/

/-- ANSWER_WINDOW_EXPIRY (R36): the answer, or the receipt, is absent. -/
def execAnswerWindowExpiry (s : State) : Result :=
  onTxn s (fun l => l == .answerWait || l == .receiptWait) fun t =>
    if s.line.state = .receiptWait then .next ((s.addBits t.window).receiptIs t .absent)
    else .next ((s.addBits t.window).answerJudged t .absent)

/-- The bit times from the end bit answered to the end bit of a token whose start bit fell in bit time `k`. -/
def answerBitTimes (k : Nat) : Nat := k - 1 + Config.answerTokenBits

/-- ANSWER_TOKEN_JUDGED (R36): the controller passes from ANSWER_WAIT through ANSWER to the judgement. -/
def execAnswerTokenJudged (k : Nat) (bits : BitVec 34) (s : State) : Result :=
  onTxn s (fun l => l == .answerWait || l == .answer) fun t =>
    inWindow t k (.next ((s.addBits (answerBitTimes k)).answerJudged t (judgeAnswer t bits)))

/-! ### Bursts and receipts (R37, R84, R85) -/

/-- BURST_WINDOW_EXPIRY (R37): no READ burst came; a failed burst, not an absent answer. -/
def execBurstWindowExpiry (s : State) : Result :=
  onTxn s (fun l => l == .burstIn) fun t =>
    .next ((s.addBits t.window).attemptFails t .burstFailed Config.gapBits)

/-- A READ burst judged: a correct one fills the buffer and ends the transaction ANSWERED; a failed one is discarded
(R85). -/
def State.burstJudged (s : State) (t : Txn) (data : List Byte) (ok : Bool) : State :=
  if ok then s.finish { t with buffer := data } (.answered .ok (wordOf data.length) .command) Config.gapBits
  else s.attemptFails t .burstFailed Config.gapBits

/-- READ_BURST_JUDGED (R85). The burst is as long as the command's argument says (R37). -/
def execReadBurstJudged (k : Nat) (data : List Byte) (crc : BitVec 16) (endBit : Bool) (s : State) : Result :=
  onTxn s (fun l => l == .burstIn) fun t =>
    inWindow t k <|
      if data.length ≠ argLength t.argument then .refused .burstLengthDiffers
      else .next ((s.addBits (k - 1 + Config.burstBits data.length)).burstJudged t data (burstCorrect data crc endBit))

/-- WRITE_BURST_END (R37): the controller waits for the receipt. -/
def execWriteBurstEnd (s : State) : Result :=
  onTxn s (fun l => l == .burstOut) fun t =>
    .next ((s.addBits (Config.writeBurstLead + Config.burstBits (argLength t.argument))).toLineState .receiptWait)

/-- RECEIPT_JUDGED (R84): absent, or judged by its 34 bits. -/
def execReceiptJudged (receipt : Option (Nat × BitVec 34)) (s : State) : Result :=
  onTxn s (fun l => l == .receiptWait) fun t =>
    match receipt with
    | none => .next ((s.addBits t.window).receiptIs t .absent)
    | some (k, bits) => inWindow t k (.next ((s.addBits (answerBitTimes k)).receiptIs t (judgeReceipt t bits)))

/-! ### Contention and join pulses (R30, R41, R52) -/

/-- The contention result handed to the engine at slot 48 (R52); a retirement may end a sweep pass (R140). -/
def State.takeContention (s : State) (u : Uid) : State :=
  let (s1, ps) := (s.toGap Config.gapBits none).contentionResult u
  s1.endIdlePass.postAll ps

/-- CONTENTION_END (R52). -/
def execContentionEnd (sample : BitVec 48) (s : State) : Result :=
  onTxn s (fun l => l == .contention) fun _ => .next ((s.addBits Config.contentionBits).takeContention sample)

/-- Whether the controller has been in IDLE long enough for a low of 10 bit times to have begun there: a gap of 8 is too
short, so that a low which reaches its 10th bit time in it began in another state (R29, R30). -/
def Line.idleFitsPulse (l : Line) : Bool :=
  match l.gap with
  | some g => decide (Config.joinRecognition ≤ g)
  | none => true

/-- Whether a low that reaches its 10th bit time is recognised: in IDLE, when it can have begun there; in COMMAND, while the
start bit it holds back is unsent and no low has been reported since; never where a line reset has begun (R30, R171). -/
def State.recognisesJoin (s : State) : Bool :=
  s.line.reset.isNone &&
  ((s.line.state == .idle && s.line.idleFitsPulse) || (s.line.state == .command && s.line.start == .untold))

/-- The report to the engine, and the grant that it may bring. FDA is low in this bit time, so that a command token which
stands at its start is being deferred, and the low of this pulse is not reported again (R29, R30). -/
def State.reportJoin (s : State) : State :=
  let s1 := s.setWanted.grant
  if s1.line.state = .command then s1.setStart (.deferred (if s.line.state = .command then 1 else 0)) else s1

/-- JOIN_PULSE_RECOGNISED (R30): one report to the engine. A low that is not recognised changes nothing. -/
def execJoinPulseRecognised (s : State) : Result :=
  running s <| if s.recognisesJoin then .next s.reportJoin else .next s

end Sys2Proof.Machine
end

