-- ==== Sys2Proof/Machine/ModuleAccess.lean ====
section
/-! DEFINITION. The takes of READ, WRITE and PING (Sections 5.1 and 5.2). -/

namespace Sys2Proof.Machine

open Sys2Proof

/-- A line request that has passed its shape check, decided by R94: the handle's address, the arguments, then the handle,
claim and deferred checks; a request that passes moves to the slot, and a free line is granted (R70, R96). -/
def lineRequestTaken (h : HostId) (k : LineKind) (r : Request) (s : State) : State :=
  if s.checkHandle (bodyHandle r) = .malformed ∨ ¬ accessArgsOk k r then s.answer h r .invalid .empty
  else
    match s.checkAccess h (bodyHandle r) with
    | .pass _ => (s.setSlot h (some ⟨lineRequestOf k r, false⟩)).grant
    | c => s.postAll (refusedAccess h r.tag k c)

/-- The dispatcher at a line request: it is taken only when the slot is empty, and otherwise waits at the head of the
queue (R154, R156). -/
def takeLineRequest (h : HostId) (k : LineKind) (s : State) : Result :=
  if (s.port h).slot.isSome ∧ s.inReset = false ∧ ((s.port h).queue.head?.map fun r => r.code) = some (lineKindCode k)
  then .next s
  else takeRequest h (fun r => r.code == lineKindCode k) (shaped h (lineRequestTaken h k)) s

/-- READ (R94, R99). -/
def execRead (h : HostId) (s : State) : Result := takeLineRequest h .read s

/-- WRITE (R94, R101). -/
def execWrite (h : HostId) (s : State) : Result := takeLineRequest h .write s

/-- PING (R94, R106). -/
def execPing (h : HostId) (s : State) : Result := takeLineRequest h .ping s

end Sys2Proof.Machine
end

