-- ==== Sys2Proof/Machine/PowerOn.lean ====
section
/-! DEFINITION. Power-on reset (Section 11.2): POWER_ON_RESET_ASSERTED and POWER_ON_RESET_END. -/

namespace Sys2Proof.Machine

open Sys2Proof

/-- POWER_ON_RESET_ASSERTED (R169): while PORn is low no exchange is taken, FCK is low, FDA released, HATNn deasserted.
The blocks take their power-on state at the end of the reset. -/
def execPowerOnResetAsserted (s : State) : Result := .next { s with inReset := true }

/-- A port after power-on reset, its manage flag latched from the strap; HRSTn keeps its level (R151, R155). -/
def powerOnPort (p : Port) (strap : Bool) : Port := { manage := strap, held := p.held }

/-- Every block's state after power-on reset, the time base at step 0 and the sweep timer started (R137, R169, R175). -/
def State.powerOn (s : State) (straps : BitVec 4) : State :=
  { State.reset with
    ports := Vector.ofFn fun h : Fin 4 => powerOnPort (s.port h) (straps.getLsbD h.val)
    sweep := { timer := some (0 + ({} : Params).sweepInterval) }
    inReset := false
    freeIndex := s.freeIndex
    pending := s.pending }

/-- POWER_ON_RESET_END (R169): every block takes its power-on state, the manage flags are latched, the sweep timer is
started, and a line reset with reason POWER_ON begins. -/
def execPowerOnResetEnd (straps : BitVec 4) (s : State) : Result :=
  if s.inReset then .next ((s.powerOn straps).beginLineReset .powerOn []) else .refused .notInPowerOnReset

end Sys2Proof.Machine
end

