-- ==== Sys2Proof/Machine/Timers.lean ====
section
/-! DEFINITION. The expiries of the millisecond timers (R175): QUARANTINE_EXPIRY, LEASE_EXPIRY, WAIT_EXPIRY,
POLL_TIMER_EXPIRY, SWEEP_INTERVAL_EXPIRY; and one step of the time base. -/

namespace Sys2Proof.Machine

open Sys2Proof

/-! ### The running timers (R175) -/

/-- The quarantine timer of the entry at `a`: a LOST entry's (R1). -/
def State.quarantineTimer (s : State) (a : Addr) : Option Nat :=
  if (s.entry a).state = .lost then (s.entry a).quarantine else none

/-- Host `h`'s wait item on a claim. -/
def Claim.waitOf (c : Claim) (h : HostId) : Option WaitItem := c.waits.find? fun w => w.host == h

/-- The poll timer of an entry's deferred record, which runs in TIMING (R108). -/
def Entry.pollTimer (e : Entry) : Option Nat :=
  match e.deferred with
  | some d => match d.phase with
    | .timing n => some n
    | _ => none
  | none => none

/-- A claim's timers, the lease's and the waits', with the command that each expires by (R120). -/
def Claim.timers (c : Claim) (a : Addr) : List (Nat × Instr) :=
  (c.expires, .leaseExpiry a) :: c.waits.map fun w => (w.expires, .waitExpiry a w.host)

/-- The running timers of the entry at `a`, each with the command that it expires by. -/
def State.timersAt (s : State) (a : Addr) : List (Nat × Instr) :=
  (s.quarantineTimer a).toList.map (fun n => (n, .quarantineExpiry a)) ++
  (s.entry a).claim.toList.flatMap (fun c => c.timers a) ++
  (s.entry a).pollTimer.toList.map (fun n => (n, .pollTimerExpiry a))

/-- Every running timer: the step at which it expires and the command that it expires by. -/
def State.timers (s : State) : List (Nat × Instr) :=
  allAddrs.flatMap s.timersAt ++ s.sweep.timer.toList.map (fun n => (n, .sweepIntervalExpiry))

/-- Whether a timer of this step expires next: the time base has not passed it, and no running timer has an earlier one
(R175). -/
def State.expiresNext (s : State) (n : Nat) : Bool := decide (s.time ≤ n) && s.timers.all fun x => decide (n ≤ x.1)

/-- The command of a timer whose step the time base has reached: the first of `State.timers`, where two expire at one step.
R175 leaves their order open; see notes/assumptions/2.md. -/
def State.dueExpiry (s : State) : Option Instr :=
  if s.inReset then none else (s.timers.find? fun x => x.1 == s.time).map Prod.snd

/-- One step of the time base, which counts from the end of power-on reset (R175). -/
def State.tick (s : State) : State := if s.inReset then s else { s with time := s.time + 1 }

/-- The expiry of a timer that runs, at the timer's step: the time base has come to it, and passes no other timer on the way
(R175). -/
def expiry (s : State) (timer : Option Nat) (act : State → State) : Result :=
  running s <|
    match timer with
    | some n => if s.expiresNext n then .next (act (s.elapseTo n)) else .refused .timerNotDue
    | none => .refused .timerNotRunning

/-! ### The expiries -/

/-- The entry at `a` leaves quarantine: a recall record, FREE, one serial increment, FREED with the recorded flag set,
and wanted while the parked count is not 0 (R11). -/
def State.leaveQuarantine (s : State) (a : Addr) : State :=
  ((s.freeRecorded a).bumpSerial.post (.notice (.freed a true))).grant

/-- QUARANTINE_EXPIRY (R11). -/
def execQuarantineExpiry (a : Addr) (s : State) : Result :=
  expiry s (s.quarantineTimer a) fun s => s.leaveQuarantine a

/-- The lease runs out: CLAIM_REVOKED to the old holder, then the handover (R124, R128). -/
def State.endLease (s : State) (a : Addr) : State :=
  match (s.entry a).claim with
  | some c =>
    let (s1, ps, _) := s.handOver a c.waits
    s1.postAll ((s.entry a).holderRevoked a .leaseExpired ++ ps)
  | none => s

/-- LEASE_EXPIRY (R128). -/
def execLeaseExpiry (a : Addr) (s : State) : Result :=
  expiry s ((s.entry a).claim.map fun c => c.expires) fun s => s.endLease a

/-- The wait runs out: the item leaves the list and its host receives WAIT_EXPIRED with the holder (R129). -/
def State.endWait (s : State) (a : Addr) (h : HostId) : State :=
  match (s.entry a).claim with
  | some c =>
    match c.waitOf h with
    | some w =>
      (s.setEntry a { s.entry a with claim := some { c with waits := c.waits.filter fun x => x.host ≠ h } }).post
        (w.reply .waitExpired (.holder (some c.holder)))
    | none => s
  | none => s

/-- WAIT_EXPIRY (R129). -/
def execWaitExpiry (a : Addr) (h : HostId) (s : State) : Result :=
  expiry s (((s.entry a).claim.bind fun c => c.waitOf h).map fun w => w.expires) fun s => s.endWait a h

/-- The record at `a` becomes DUE, and a free line is granted (R70, R110). -/
def State.pollDueAt (s : State) (a : Addr) : State :=
  let e := s.entry a
  (s.setEntry a { e with deferred := e.deferred.map fun d => { d with phase := .due } }).grant

/-- POLL_TIMER_EXPIRY (R110). -/
def execPollTimerExpiry (a : Addr) (s : State) : Result :=
  expiry s (s.entry a).pollTimer fun s => s.pollDueAt a

/-- The interval timer is started again with the interval in force; a pass begins if none is active (R138, R139). -/
def State.sweepDue (s : State) : State :=
  let s1 := { s with sweep := { s.sweep with timer := some (s.time + s.config.sweepInterval) } }
  (if s.sweep.active then s1 else s1.beginPass).grant

/-- SWEEP_INTERVAL_EXPIRY (R138). -/
def execSweepIntervalExpiry (s : State) : Result := expiry s s.sweep.timer State.sweepDue

end Sys2Proof.Machine
end

