-- ==== Sys2Proof/Machine/Dispatch.lean ====
section
/-! DEFINITION. The meaning of every command: one arm for each row of spec/opcode_table.json, in the table's order. -/

namespace Sys2Proof.Machine

open Sys2Proof

def exec (i : Instr) (s : State) : Host.Outcome State Fault Refusal :=
  match i with
  | .powerOnResetAsserted => Sys2Proof.Machine.execPowerOnResetAsserted s
  | .powerOnResetEnd straps => Sys2Proof.Machine.execPowerOnResetEnd straps s
  | .request h code tag body check => Sys2Proof.Machine.execRequest h code tag body check s
  | .fetch h beganEmpty => Sys2Proof.Machine.execFetch h beganEmpty s
  | .cancel h tag check => Sys2Proof.Machine.execCancel h tag check s
  | .hostReset h => Sys2Proof.Machine.execHostReset h s
  | .unknownExchange h first => Sys2Proof.Machine.execUnknownExchange h first s
  | .hrstnFall h => Sys2Proof.Machine.execHrstnFall h s
  | .hrstnRise h => Sys2Proof.Machine.execHrstnRise h s
  | .invalidRequestCode h => Sys2Proof.Machine.execInvalidRequestCode h s
  | .list h => Sys2Proof.Machine.execList h s
  | .lookup h => Sys2Proof.Machine.execLookup h s
  | .recalls h => Sys2Proof.Machine.execRecalls h s
  | .forget h => Sys2Proof.Machine.execForget h s
  | .claim h => Sys2Proof.Machine.execClaim h s
  | .renew h => Sys2Proof.Machine.execRenew h s
  | .release h => Sys2Proof.Machine.execRelease h s
  | .revoke h => Sys2Proof.Machine.execRevoke h s
  | .read h => Sys2Proof.Machine.execRead h s
  | .write h => Sys2Proof.Machine.execWrite h s
  | .ping h => Sys2Proof.Machine.execPing h s
  | .enumerate h => Sys2Proof.Machine.execEnumerate h s
  | .subscribe h => Sys2Proof.Machine.execSubscribe h s
  | .settings h => Sys2Proof.Machine.execSettings h s
  | .configureLineRate h => Sys2Proof.Machine.execConfigureLineRate h s
  | .configureAnswerWindow h => Sys2Proof.Machine.execConfigureAnswerWindow h s
  | .configureRetryLimit h => Sys2Proof.Machine.execConfigureRetryLimit h s
  | .configureMissLimit h => Sys2Proof.Machine.execConfigureMissLimit h s
  | .configureSweepInterval h => Sys2Proof.Machine.execConfigureSweepInterval h s
  | .configureQuarantine h => Sys2Proof.Machine.execConfigureQuarantine h s
  | .configurePollInterval h => Sys2Proof.Machine.execConfigurePollInterval h s
  | .configurePollLimit h => Sys2Proof.Machine.execConfigurePollLimit h s
  | .configureUnknownParameter h => Sys2Proof.Machine.execConfigureUnknownParameter h s
  | .lineReset h => Sys2Proof.Machine.execLineReset h s
  | .resetHoldStart => Sys2Proof.Machine.execResetHoldStart s
  | .resetHoldEnd => Sys2Proof.Machine.execResetHoldEnd s
  | .resetWaitEnd waited => Sys2Proof.Machine.execResetWaitEnd waited s
  | .resetTokenSent => Sys2Proof.Machine.execResetTokenSent s
  | .lineGapEnd => Sys2Proof.Machine.execLineGapEnd s
  | .startBitDeferralEnd levels => Sys2Proof.Machine.execStartBitDeferralEnd levels s
  | .commandTokenEnd => Sys2Proof.Machine.execCommandTokenEnd s
  | .answerWindowExpiry => Sys2Proof.Machine.execAnswerWindowExpiry s
  | .answerTokenJudged k bits => Sys2Proof.Machine.execAnswerTokenJudged k bits s
  | .burstWindowExpiry => Sys2Proof.Machine.execBurstWindowExpiry s
  | .readBurstJudged k data crc endBit => Sys2Proof.Machine.execReadBurstJudged k data crc endBit s
  | .writeBurstEnd => Sys2Proof.Machine.execWriteBurstEnd s
  | .receiptJudged receipt => Sys2Proof.Machine.execReceiptJudged receipt s
  | .contentionEnd sample => Sys2Proof.Machine.execContentionEnd sample s
  | .joinPulseRecognised => Sys2Proof.Machine.execJoinPulseRecognised s
  | .quarantineExpiry a => Sys2Proof.Machine.execQuarantineExpiry a s
  | .leaseExpiry a => Sys2Proof.Machine.execLeaseExpiry a s
  | .waitExpiry a h => Sys2Proof.Machine.execWaitExpiry a h s
  | .pollTimerExpiry a => Sys2Proof.Machine.execPollTimerExpiry a s
  | .sweepIntervalExpiry => Sys2Proof.Machine.execSweepIntervalExpiry s

end Sys2Proof.Machine
end

