-- ==== Sys2Proof/Machine/Step.lean ====
section
/-! DEFINITION. One step: the command at the front of the queue is taken and runs; on an empty queue a due timer
expires, or the time base makes one step (R175). -/

namespace Sys2Proof.Machine

open Sys2Proof

/-- The state with the command that a word spells put at the front of the queue; unchanged where the word spells none. -/
def State.withFetchWord (s : State) (nbits w : Nat) : State :=
  match decodeTableWord nbits w with
  | some c => { s with pending := c :: s.pending }
  | none => s

/-- One step of the machine. On an empty queue nothing reaches the controller from outside: a timer whose step the time base
has reached expires, and with none such one millisecond of the time base passes; see notes/assumptions/2.md. -/
def step (s : State) : Host.Outcome State Fault Refusal :=
  match s.pending with
  | [] =>
    match s.dueExpiry with
    | some c => exec c s
    | none => .next s.tick
  | c :: rest => exec c { s with pending := rest }

end Sys2Proof.Machine
end

