-- ==== Sys2Proof/Machine/LineModule.lean ====
section
/-! DEFINITION. The module side of the line protocol (Chapter 2): the wired line, the acceptance of command tokens, the
five states of a module, its registers, answers, receipts and bursts, collisions, contention, the announced mark and join
pulses, the hold, and the controller's watch for join pulses bit by bit.
Line modules are other agents of the line: no command of the controller reads these definitions and no module is in
`State` (notes/assumptions/16.md). They say what a conforming module may put on the line. -/

namespace Sys2Proof.Machine

open Sys2Proof

/-! ### The wired line (R28) -/

/-- The level read on FDA when the parties drive these levels: 0 if any party pulls it low (R28). -/
def wired (drives : List Bool) : Bool := drives.all id

/-- What a sender that checks for collision puts on the line while the others drive `others`: at the first bit it
releases and reads as 0, it releases FDA for the rest (R28). -/
def sendChecked : List Bool → List Bool → List Bool
  | [], _ => []
  | b :: bs, [] => b :: bs
  | b :: bs, o :: os => b :: if b && !o then List.replicate bs.length true else sendChecked bs os

/-! ### Accepting a command token (R34) -/

/-- The nine line commands (Section 2.9). -/
inductive LineCommand where
  | reset | unpark | seek | assign | park | ping | read | write | status
deriving DecidableEq, Repr

/-- The line command that a command code names; code 0 and codes above 9 name none (R34, Section 12.5). -/
def lineCommandOf (code : BitVec 4) : Option LineCommand :=
  match code.toNat with
  | 1 => some .reset | 2 => some .unpark | 3 => some .seek | 4 => some .assign | 5 => some .park
  | 6 => some .ping | 7 => some .read | 8 => some .write | 9 => some .status
  | _ => none

/-- The addresses to which a command applies (R34). -/
def LineCommand.appliesTo (c : LineCommand) (address : BitVec 6) : Bool :=
  match c with
  | .reset | .unpark | .seek => address == 0
  | .assign | .park => address == 63
  | .ping | .read | .write | .status => (addrOfNat address.toNat).isSome

/-- A command token as a module has accepted it. -/
structure Heard where
  command : LineCommand
  address : BitVec 6
  argument : BitVec 18
deriving DecidableEq, Repr

/-- The fields of a command token's 38 bits (R34). -/
def tokenAddress (b : BitVec 38) : BitVec 6 := b.extractLsb' 31 6
def tokenCode (b : BitVec 38) : BitVec 4 := b.extractLsb' 27 4
def tokenArgument (b : BitVec 38) : BitVec 18 := b.extractLsb' 9 18
def tokenCheck (b : BitVec 38) : BitVec 8 := b.extractLsb' 1 8

/-- The acceptance of a command token: its 38th bit, its check code, its command code and its address (R34). -/
def acceptToken (b : BitVec 38) : Option Heard :=
  match lineCommandOf (tokenCode b) with
  | none => none
  | some c =>
    if b.getLsbD 0 && tokenCheck b == crc8 (bitsOf (commandBody (tokenAddress b) (tokenCode b) (tokenArgument b)))
        && c.appliesTo (tokenAddress b)
    then some ⟨c, tokenAddress b, tokenArgument b⟩ else none

/-! ### The module (R38) -/

/-- A write that a module has accepted and not yet completed: the WRITE's argument and the bytes of its burst (R46). -/
structure HeldWrite where
  argument : BitVec 18
  data : List Byte
deriving DecidableEq, Repr

/-- The five module states; the address is kept while addressed or busy, the deferred write while busy (R38, R46). -/
inductive ModuleState where
  | unaddressed | survivor | addressed (a : Addr) | busy (a : Addr) (write : HeldWrite) | parked
deriving DecidableEq, Repr

/-- The result of a module's latest deferred write (R38, R46). -/
inductive WriteResult where
  | ok | fault (reason : BitVec 16)
deriving DecidableEq, Repr

/-- An answer token's contents (R35). -/
structure Answer where
  echo : BitVec 6
  status : ModStatus
  value : BitVec 16
deriving DecidableEq, Repr

/-- The 34 bits of an answer after its start bit (R35). -/
def Answer.bits (a : Answer) : BitVec 34 := answerBits a.echo (BitVec.ofNat 3 (statusCode a.status)) a.value

/-- The transfer that a module itself is in the middle of, which a hold, a collision or a restart abandons (R28, R33, R38). -/
inductive Transfer where
  | none
  /-- A command token is being received. -/
  | token
  /-- Answering an accepted token. -/
  | answer (heard : Heard) (a : Answer)
  /-- Sending a READ burst. -/
  | readBurst (data : List Byte)
  /-- Contending (R41). -/
  | slots
  /-- A WRITE was answered OK, and `waited` bit times after the answer's end bit no burst has begun (R37). -/
  | burstWait (argument : BitVec 18) (waited : Nat)
  /-- Receiving the burst of a WRITE. -/
  | writeBurst (argument : BitVec 18)
  /-- Sending a receipt. -/
  | receipt (a : Answer)
deriving DecidableEq, Repr

/-- How far a module has followed what goes on between the LD62 and any module (R31). -/
inductive Follow where
  /-- Not followed: nothing heard yet, a token failed its check, an answer or burst did not start by the 8th bit time, or
  a hold. -/
  | lost
  /-- A transaction has been followed to its end. -/
  | ended
  | token
  | answer (heard : Heard)
  | slots
  | burst (heard : Heard)
  | receipt
deriving DecidableEq, Repr

/-- A line module (R38): its fixed data, its state, its announced mark, its latest deferred result, the transfer it is in, the bits
of its own token or burst that it has still to send (none: it is not sending), how far it follows the line, and the bit times
that R31 and R33 count: those it has been unaddressed since a SEEK or a RESET (0 in every other state), since its last join pulse
(none: it has sent none), of FDA released, and of FDA low and not its own. -/
structure Module where
  uid : Uid
  cls : Byte
  state : ModuleState := .unaddressed
  announced : Bool := false
  result : Option WriteResult := none
  transfer : Transfer := .none
  sending : List Bool := []
  follow : Follow := .lost
  sinceSeek : Nat := 0
  sincePulse : Option Nat := none
  released : Nat := 0
  low : Nat := 0
deriving DecidableEq, Repr

/-- The address at which a module is addressed or busy. -/
def Module.address (m : Module) : Option Addr :=
  match m.state with
  | .addressed a | .busy a _ => some a
  | .unaddressed | .survivor | .parked => none

/-- Unaddressed, without an address and without a deferred result. -/
def Module.unbound (m : Module) : Module := { m with state := .unaddressed, result := none }

/-- A module that restarts on its own: any transfer, its mark, its address and its deferred result are gone (R38). -/
def Module.restart (m : Module) : Module := { uid := m.uid, cls := m.cls }

/-- A module abandons the transfer it is in: a token is not acted on, an answer, receipt or burst is sent no further, with FDA
released, a contention makes no survivor, a WRITE is not applied and gets no receipt; nothing else changes (R28, R33). -/
def Module.abandon (m : Module) : Module := { m with transfer := .none, sending := [] }

/-! ### What is inside a module (R44 to R46) -/

/-- What is the module's own: an internal failure it reports, its registers and which of them exist and may be read or
written, whether it can answer or take a write now, and its reason code (R44 to R46). -/
structure Inner where
  failure : Option (BitVec 16) := none
  readable : Nat → Bool
  writable : Nat → Bool
  register : Nat → Byte
  ready : Bool := true
  reason : BitVec 16 := 0

/-- The register index in the high 12 bits of a READ's or WRITE's argument (R45, R46). -/
def argIndex (argument : BitVec 18) : Nat := (argument.extractLsb' 6 12).toNat

/-- The indexes that a READ or WRITE names, ascending: index to index + length - 1 (R45). -/
def argRange (argument : BitVec 18) : List Nat := (List.range (argLength argument)).map fun i => argIndex argument + i

/-- The highest register index (R45). -/
def lastRegister : Nat := 4095

/-- Whether every index of the range exists and may be accessed; none does past 4095 (R45). -/
def rangeOk (accessible : Nat → Bool) (argument : BitVec 18) : Bool :=
  (argRange argument).all fun i => decide (i ≤ lastRegister) && accessible i

/-- The bytes of a READ burst: the registers of the range in ascending order (R45). -/
def Inner.readData (inner : Inner) (argument : BitVec 18) : List Byte := (argRange argument).map inner.register

/-- The registers after a WRITE has been applied: the bytes in the order sent, from the index on (R46). -/
def Inner.applied (inner : Inner) (argument : BitVec 18) (data : List Byte) : Inner :=
  { inner with register := fun i =>
      if i ∈ argRange argument then data.getD (i - argIndex argument) (inner.register i) else inner.register i }

/-- The registers after a WRITE that ended so: with the bytes applied, or as the module leaves them. DESIGN CHOICE: what a
failed write leaves in the registers is for the module's own documentation (R102), so that `left` may be anything. See
notes/assumptions/34.md. -/
def Inner.ended (inner : Inner) (w : HeldWrite) (r : WriteResult) (left : Nat → Byte) : Inner :=
  match r with
  | .ok => inner.applied w.argument w.data
  | .fault _ => { inner with register := left }

/-- A busy module completes its write at a time of its own choosing: it is addressed again, with the deferred result, and its
registers are as the write ended (R46). A module that is not busy has no write to complete. -/
def Module.completeWrite (m : Module) (inner : Inner) (r : WriteResult) (left : Nat → Byte) : Module × Inner :=
  match m.state with
  | .busy a w => ({ m with state := .addressed a, result := some r }, inner.ended w r left)
  | .unaddressed | .survivor | .addressed _ | .parked => (m, inner)

/-! ### Answers (R42 to R47) -/

/-- The answer to READ or WRITE of a module at its address. DESIGN CHOICE: the rows of R45 and the list of R46 overlap, and
the manual does not rank them; this module gives FAULT for an internal failure before everything else, a busy one PEND, and
an addressed one REJECT for its range before PEND for not being ready. See notes/assumptions/30.md. -/
def Module.answerAccess (m : Module) (inner : Inner) (accessible : Nat → Bool) (address : BitVec 6)
    (argument : BitVec 18) : Answer :=
  match inner.failure, m.state with
  | some v, _ => ⟨address, .fault, v⟩
  | none, .busy _ _ => ⟨address, .pend, 0⟩
  | none, _ =>
    if !rangeOk accessible argument then ⟨address, .reject, inner.reason⟩
    else if !inner.ready then ⟨address, .pend, 0⟩
    else ⟨address, .ok, wordOf (argLength argument)⟩

/-- The answer to STATUS of a module at its address (R47). DESIGN CHOICE: a REJECT carries a reason code of the module's own
(Section 12.5), which may be the 0 that R35 gives where an entry gives a status no meaning. See notes/assumptions/31.md. -/
def Module.answerStatus (m : Module) (inner : Inner) (address : BitVec 6) : Answer :=
  match m.state, m.result with
  | .busy _ _, _ => ⟨address, .pend, 0⟩
  | _, some .ok => ⟨address, .ok, 0⟩
  | _, some (.fault v) => ⟨address, .fault, v⟩
  | _, none => ⟨address, .reject, inner.reason⟩

/-- The answer to PING of a module at its address (R44). -/
def Module.answerPing (m : Module) (inner : Inner) (address : BitVec 6) : Answer :=
  match inner.failure with
  | some v => ⟨address, .fault, v⟩
  | none => ⟨address, .ok, uidLow16 m.uid⟩

/-- Whether an ASSIGN's or PARK's argument names the module's uid (R42, R43). -/
def Module.named (m : Module) (argument : BitVec 18) : Bool := m.uid.extractLsb' 0 12 == argument.extractLsb' 0 12

/-- The answer to an accepted ASSIGN: the new address, the class in the high byte (R42). -/
def Module.assigned (m : Module) (a : Addr) : Answer := ⟨addr6 a, .ok, m.cls ++ (0#8)⟩

/-- ASSIGN of `a` (R42). -/
def Module.hearAssign (m : Module) (a : Addr) (argument : BitVec 18) : Module × Option Answer :=
  match m.state with
  | .survivor =>
    if m.named argument then ({ m with state := .addressed a, result := none }, some (m.assigned a)) else (m, none)
  | .addressed b | .busy b _ =>
    if a = b then if m.named argument then (m, some (m.assigned a)) else ({ m.unbound with announced := false }, none)
    else (m, none)
  | .unaddressed | .parked => (m, none)

/-- PARK (R43). -/
def Module.hearPark (m : Module) (argument : BitVec 18) : Module × Option Answer :=
  match m.state with
  | .survivor | .parked => if m.named argument then ({ m with state := .parked }, some ⟨63, .ok, 0⟩) else (m, none)
  | .unaddressed | .addressed _ | .busy _ _ => (m, none)

/-- What an accepted token does to a module and the answer it is to send (R38 to R47). SEEK makes a contender of an
unaddressed module and of a survivor, whose state ends at that moment (R41). RESET sets the announced mark, UNPARK leaves it as
it is (R39, R40); the mark's 65536 bit times count anew from either (R31; DEDUCED: notes/assumptions/32.md). -/
def Module.obey (m : Module) (inner : Inner) (t : Heard) : Module × Option Answer :=
  let mine := decide (m.address.map addr6 = some t.address)
  match t.command with
  | .reset => ({ m.unbound with announced := true, sinceSeek := 0 }, none)
  | .unpark =>
    match m.state with
    | .parked | .survivor => ({ m with state := .unaddressed, sinceSeek := 0 }, none)
    | .unaddressed | .addressed _ | .busy _ _ => (m, none)
  | .seek =>
    match m.state with
    | .unaddressed | .survivor =>
      ({ m with state := .unaddressed, announced := true, sinceSeek := 0, transfer := .slots }, none)
    | .addressed _ | .busy _ _ | .parked => (m, none)
  | .assign =>
    match addrOfNat (t.argument.extractLsb' 12 6).toNat with
    | some a => m.hearAssign a t.argument
    | none => (m, none)
  | .park => m.hearPark t.argument
  | .ping => (m, if mine then some (m.answerPing inner t.address) else none)
  | .read => (m, if mine then some (m.answerAccess inner inner.readable t.address t.argument) else none)
  | .write => (m, if mine then some (m.answerAccess inner inner.writable t.address t.argument) else none)
  | .status => (m, if mine then some (m.answerStatus inner t.address) else none)

/-! ### Transfers (R33, R37, R45, R46) -/

/-- A start bit where a command token may begin: a module in no transfer receives it (R34). -/
def Module.tokenBegins (m : Module) : Module :=
  match m.transfer with
  | .none => { m with transfer := .token }
  | _ => m

/-- The end of a command token that a module has received: accepted, it is obeyed and its answer, if any, goes out; failed, it
is not acted on (R34). A token that was abandoned has no end for the module (R33). -/
def Module.tokenEnds (m : Module) (inner : Inner) (b : BitVec 38) : Module :=
  match m.transfer, acceptToken b with
  | .token, some t =>
    let (m1, a) := m.abandon.obey inner t
    match a with
    | some ans => { m1 with transfer := .answer t ans }
    | none => m1
  | .token, none => m.abandon
  | _, _ => m

/-- The end bit of a module's answer is sent: an OK answer to READ is followed by the burst of the bytes, one to WRITE by the
wait for the burst, every other by nothing (R45, R46). -/
def Module.answerEnds (m : Module) (inner : Inner) : Module :=
  match m.transfer with
  | .answer t a =>
    { m with transfer :=
        if a.status = .ok then
          match t.command with
          | .read => .readBurst (inner.readData t.argument)
          | .write => .burstWait t.argument 0
          | _ => .none
        else .none }
  | _ => m

/-- The last bit time in which the burst of a WRITE may begin (R37). -/
def burstWaitLimit : Nat := 8

/-- One bit time of the wait for the burst of a WRITE: a low is its start bit; where there is none by bit time 8, the module
abandons the write (R37). -/
def Transfer.awaitBurst (t : Transfer) (fda : Bool) : Transfer :=
  match t with
  | .burstWait argument waited =>
    if !fda then .writeBurst argument
    else if waited + 1 < burstWaitLimit then .burstWait argument (waited + 1)
    else .none
  | _ => t

/-- How a WRITE burst that passed its check ended at the module (R46). -/
inductive Applied where
  | atOnce | notYet | failed (reason : BitVec 16)
deriving DecidableEq, Repr

/-- The judgement of a WRITE burst at the module, wholly received: the receipt it sends, and its state after it; a write that is
accepted for later is kept. A burst that the module has abandoned, or of a write it has abandoned, gets no receipt (R33, R37,
R46). DESIGN CHOICE: a REJECT receipt carries a reason code of the module's own (Section 12.5), which may be R35's 0. See
notes/assumptions/31.md. DESIGN CHOICE: the module is busy from its judgement of the burst on, also where its PEND receipt is then
cut; R38 has it become busy by sending that receipt and does not speak of a cut one. See notes/assumptions/35.md. -/
def Module.burstEnds (m : Module) (data : List Byte) (crc : BitVec 16) (endBit : Bool) (reason : BitVec 16)
    (how : Applied) : Module :=
  match m.transfer, m.address with
  | .writeBurst argument, some a =>
    if burstCorrect data crc endBit then
      match how with
      | .atOnce => { m with transfer := .receipt ⟨addr6 a, .ok, wordOf (argLength argument)⟩ }
      | .notYet =>
        { m with state := .busy a ⟨argument, data⟩, result := none, transfer := .receipt ⟨addr6 a, .pend, wordOf (argLength argument)⟩ }
      | .failed v => { m with transfer := .receipt ⟨addr6 a, .fault, v⟩ }
    else { m with transfer := .receipt ⟨addr6 a, .reject, reason⟩ }
  | _, _ => m

/-- The registers after the burst: a write that was applied at once or failed has ended (`left`: what a failed one leaves); one
that is accepted for later, or whose burst failed its check, has changed nothing (R46). -/
def Inner.afterBurst (inner : Inner) (m : Module) (data : List Byte) (crc : BitVec 16) (endBit : Bool) (how : Applied)
    (left : Nat → Byte) : Inner :=
  match m.transfer with
  | .writeBurst argument =>
    if burstCorrect data crc endBit then
      match how with
      | .atOnce => inner.ended ⟨argument, data⟩ .ok left
      | .notYet => inner
      | .failed v => inner.ended ⟨argument, data⟩ (.fault v) left
    else inner
  | _ => inner

/-- The bits that a module puts on FDA for its transfer: an answer or receipt with its start bit, or a READ burst. -/
def Transfer.bits (t : Transfer) : List Bool :=
  match t with
  | .answer _ a | .receipt a => false :: bitsOf a.bits
  | .readBurst data => burstFrame data
  | .none | .token | .slots | .burstWait _ _ | .writeBurst _ => []

/-- The start bit of the module's answer, receipt or READ burst comes next: from the next bit time on it sends (R35, R37). -/
def Module.begins (m : Module) : Module := { m with sending := m.transfer.bits }

/-- The end of a READ burst or of a receipt: the module is ready for the next command token. -/
def Module.sent (m : Module) : Module := m.abandon

/-- Where an answer's or a READ burst's start bit may fall after the end bit it follows (R35, R37). -/
def answersIn (k : Nat) : Bool := decide (2 ≤ k ∧ k ≤ 8)

/-! ### Contention (R41) -/

/-- The level sampled in the slot of bit `i`, the rest of the line leaving FDA at the level `rest` has there (0: held low, by a
fault or a hold): released only if it is so and every remaining contender holds a 1 there (R28, R41). -/
def slotLevel (rest : BitVec 48) (cs : List Uid) (i : Nat) : Bool :=
  wired (rest.getLsbD i :: cs.map fun u => u.getLsbD i)

/-- The contenders that stay after the slot: one that released FDA and read 0 has lost (R41). -/
def stayers (rest : BitVec 48) (cs : List Uid) (i : Nat) : List Uid :=
  if slotLevel rest cs i then cs else cs.filter fun u => !u.getLsbD i

/-- The slots of the `n` least significant bits, most significant first: the sampled levels and the contenders left. -/
def contend (rest : BitVec 48) : Nat → List Uid → List Bool × List Uid
  | 0, cs => ([], cs)
  | n + 1, cs =>
    let (bs, out) := contend rest n (stayers rest cs n)
    (slotLevel rest cs n :: bs, out)

/-- A line that nothing but the contenders pulls low in any slot. -/
def freeLine : BitVec 48 := BitVec.allOnes 48

/-- A line that a fault holds low in every slot (R41). -/
def lineHeldLow : BitVec 48 := 0

/-- The 48 sampled levels as the contention result, slot 1 the most significant (R41, R52). -/
def contentionSample (rest : BitVec 48) (cs : List Uid) : BitVec 48 :=
  (contend rest 48 cs).1.foldl (fun x b => x.shiftConcat b) 0

/-- The contenders that have not lost at the end of slot 48 (R41). -/
def contentionLeft (rest : BitVec 48) (cs : List Uid) : List Uid := (contend rest 48 cs).2

/-- The contenders that become survivor: those that have not lost at the end of slot 48, and none where a reset hold has begun
during the slots (`held`), even one whose remaining bits are all 0, which loses no slot (R41). R33's count of 48 need not be
reached by then, nor within the hold, so that R41's sentence is modelled by itself (DEDUCED: notes/assumptions/36.md). -/
def survivors (rest : BitVec 48) (held : Bool) (cs : List Uid) : List Uid := if held then [] else contentionLeft rest cs

/-- A contender after slot 48: survivor if it is among those that become so, else unaddressed; a contention that it has abandoned
before makes no survivor (R33, R41). -/
def Module.contended (m : Module) (rest : BitVec 48) (held : Bool) (cs : List Uid) : Module :=
  match m.transfer with
  | .slots => { m with state := if m.uid ∈ survivors rest held cs then .survivor else .unaddressed, transfer := .none }
  | _ => m

/-! ### Following the line (R31) -/

/-- What a module sees of a transaction on the line, its own or another's (R31). -/
inductive Seen where
  /-- A start bit where a command token may begin. -/
  | tokenBegins
  | tokenAccepted (t : Heard)
  | tokenFailed
  /-- The end bit of an answer or a receipt, with its status. -/
  | answered (status : ModStatus)
  | slotsOver
  | burstOver
  /-- No start bit by the 8th bit time of a wait for an answer, a burst or a receipt. -/
  | noStart
  | hold
deriving DecidableEq, Repr

/-- How far the transaction is followed after what the module sees: RESET and UNPARK end with their token, SEEK with its
slots, READ with its burst, WRITE with its receipt, and every other command, or any status but OK, with the answer (R29, R81).
DESIGN CHOICE: a burst or a receipt that has not started by the 8th bit time is not followed either, as an answer is not (R31). See
notes/assumptions/38.md. -/
def Follow.next (f : Follow) (e : Seen) : Follow :=
  match f, e with
  | _, .tokenBegins => .token
  | .token, .tokenAccepted t =>
    match t.command with
    | .reset | .unpark => .ended
    | .seek => .slots
    | .assign | .park | .ping | .read | .write | .status => .answer t
  | .slots, .slotsOver => .ended
  | .answer t, .answered status =>
    match t.command, status with
    | .read, .ok | .write, .ok => .burst t
    | _, _ => .ended
  | .burst t, .burstOver => if t.command = .write then .receipt else .ended
  | .receipt, .answered _ => .ended
  | _, _ => .lost

/-- A module sees this: FDA's released bit times count anew from the end of a transaction it has followed (R31). -/
def Module.sees (m : Module) (e : Seen) : Module :=
  let f := m.follow.next e
  { m with follow := f, released := if f = .ended then 0 else m.released }

/-! ### Bit times at a module (R28, R31, R33, R37) -/

/-- Whether the module pulls FDA low itself: with a 0 of its token or burst, or, as `pulls` tells, with its join pulse or with a
contention bit of 0 (R28, R31, R41). -/
def Module.ownLow (m : Module) (pulls : Bool) : Bool := pulls || m.sending.head? == some false

/-- Whether a module that sends an answer, a receipt or a READ burst collides: it releases FDA for the next of its bits and reads
0 (R28). A join pulse and a contention bit are not checked. -/
def Module.collides (m : Module) (fda : Bool) : Bool := m.sending.head? == some true && !fda

/-- The count of low bit times at which a hold abandons a transfer (R33). -/
def holdCount : Nat := 48

/-- The bit times without a SEEK after which an unaddressed module's announced mark clears (R31). -/
def markLimit : Nat := 65536

/-- The consecutive bit times of a low that is not the module's own, after one more (R33). -/
def Module.lowAfter (m : Module) (fda own : Bool) : Nat := if fda then 0 else if own then m.low else m.low + 1

/-- One bit time as a module counts it: the bit it has sent, the lows that are not its own, the released ones, the time unaddressed without a SEEK,
after which the mark clears, the time since its last pulse (R31), and the wait for a WRITE's burst (R37). The count of R31 runs
while the module is unaddressed and no longer, so that one unparked contends with its mark (R40; notes/assumptions/32.md). -/
def Module.count (m : Module) (fda own : Bool) : Module :=
  let unseen := if m.state = .unaddressed then m.sinceSeek + 1 else 0
  { m with
    low := m.lowAfter fda own
    released := if fda then m.released + 1 else 0
    sinceSeek := unseen
    sincePulse := m.sincePulse.map (· + 1)
    announced := if markLimit ≤ unseen then false else m.announced
    transfer := m.transfer.awaitBurst fda
    sending := m.sending.tail }

/-- One bit time at a module, with FDA read as `fda`: counted; where it collides it stops sending and abandons its token or burst
at once (R28, R33); where the lows have reached 48, a hold: whatever transfer is in progress is abandoned, with address, state
and mark as they were (R33). -/
def Module.bitTime (m : Module) (fda pulls : Bool) : Module :=
  let m1 := m.count fda (m.ownLow pulls)
  let m2 := if m.collides fda then m1.abandon else m1
  if holdCount ≤ m2.low then m2.abandon.sees .hold else m2

/-- The level at which a module that sends leaves FDA in each bit time, while the rest of the line leaves it at `rest`. -/
def Module.sends (m : Module) : List Bool → List Bool
  | [] => []
  | r :: later =>
    let level := !m.ownLow false
    level :: (m.bitTime (wired [level, r]) false).sends later

/-- The released bit times after which the line is quiet for a module that has followed a transaction to its end, and for
one that has not (R31). -/
def quietAfterEnd : Nat := 8
def quietAfterAny : Nat := 264

/-- The bit times from the beginning of a module's join pulse to that of the next, at the least (R31). -/
def pulseSpacing : Nat := 4096

/-- Whether an unaddressed module sends a join pulse at this bit time (R31). -/
def Module.pulses (m : Module) : Bool :=
  m.state == .unaddressed && !m.announced &&
  ((m.follow == .ended && decide (quietAfterEnd ≤ m.released)) || decide (quietAfterAny ≤ m.released)) &&
  match m.sincePulse with
  | some n => decide (pulseSpacing ≤ n)
  | none => true

/-- A module begins a join pulse. DESIGN CHOICE: the 4096 bit times since the previous pulse count from its beginning; R31 does
not say whether they count from its beginning or its end. See notes/assumptions/33.md. -/
def Module.pulse (m : Module) : Module := { m with sincePulse := some 0 }

/-- The lengths a join pulse may have, in bit times (R31). -/
def pulseLengthOk (n : Nat) : Bool := decide (12 ≤ n ∧ n ≤ 20)

/-! ### The line controller's watch for join pulses (R30) -/

/-- What the line controller does in a bit time, as far as R30 tells it apart. -/
inductive Watched where
  | idle | deferring | other
deriving DecidableEq, Repr

/-- The low that FDA shows: none; one that began in IDLE, with its bit times so far; one that is not recognised. -/
inductive LowSeen where
  | none
  | pulse (bits : Nat)
  | foreign
deriving DecidableEq, Repr

/-- The low after one more bit time: a low begins a pulse only in IDLE, and lasts through IDLE and a deferral only (R30). -/
def LowSeen.next (l : LowSeen) (w : Watched) (fda : Bool) : LowSeen :=
  if fda then .none
  else
    match l, w with
    | .none, .idle => .pulse 1
    | .none, _ => .foreign
    | .pulse n, .idle | .pulse n, .deferring => .pulse (n + 1)
    | .pulse _, .other => .foreign
    | .foreign, _ => .foreign

/-- The join pulses reported over the bit times of the line: one as a low reaches its 10th, and none again until FDA has been
released (R30). -/
def joinReports : LowSeen → List (Watched × Bool) → Nat
  | _, [] => 0
  | l, (w, fda) :: later =>
    let l1 := l.next w fda
    (if l1 = .pulse Config.joinRecognition then 1 else 0) + joinReports l1 later

end Sys2Proof.Machine
end

