-- ==== Sys2Proof/Safety.lean ====
section
/-! DEFINITION. What a sound state of the LD62 is, in the terms the statements use: the laws that the manual says the
controller keeps in every event. Each is a decidable proposition over plain data. -/

namespace Sys2Proof.Machine

open Sys2Proof

/-! ### Host ports -/

/-- R157: at most 8 distinct owed tags; items and owed tags never exceed 24 together; a set overrun flag goes with at
least 16 items. -/
abbrev Port.Wf (p : Port) : Prop :=
  p.owed.length ≤ 8 ∧ p.owed.Nodup ∧ p.outbound.length + p.owed.length ≤ 24 ∧
  (p.overrun = true → 16 ≤ p.outbound.length)

/-- R157 at every host port. -/
abbrev State.PortsWf (s : State) : Prop := ∀ h, (s.port h).Wf

/-- R165: a held port of a running controller has no request, no owed tag, no item and no ungranted slot request. -/
abbrev State.HeldPortsEmpty (s : State) : Prop :=
  s.inReset = false → ∀ h, (s.port h).held = true →
    (s.port h).queue = [] ∧ (s.port h).owed = [] ∧ (s.port h).outbound = [] ∧ (s.port h).overrun = false ∧
    (s.port h).candidate = false

/-! ### The configuration store -/

/-- R166: every parameter is in its range. -/
abbrev Params.Wf (p : Params) : Prop :=
  (8 ≤ p.window ∧ p.window ≤ 255) ∧ p.retryLimit ≤ 3 ∧ (1 ≤ p.missLimit ∧ p.missLimit ≤ 7) ∧
  (p.sweepInterval = 0 ∨ (20 ≤ p.sweepInterval ∧ p.sweepInterval ≤ 60000)) ∧ p.quarantine ≤ 60000 ∧
  (1 ≤ p.pollInterval ∧ p.pollInterval ≤ 1000) ∧ (1 ≤ p.pollLimit ∧ p.pollLimit ≤ 4095)

/-! ### The directory -/

/-- R1: the fields of an entry, as its state lets them be; R10 and R119: no claim and no deferred record but on a PRESENT
or SUSPECT entry. -/
abbrev Entry.Wf (e : Entry) (missLimit : Nat) : Prop :=
  (e.uid = none ↔ e.state = .free) ∧
  (e.state = .free ∨ e.state = .binding → e.cls = none) ∧
  (e.state ≠ .suspect → e.miss = 0) ∧
  (e.state = .suspect → 1 ≤ e.miss ∧ e.miss + 1 ≤ missLimit) ∧
  (e.quarantine ≠ none ↔ e.state = .lost) ∧
  (e.claim ≠ none → e.bound = true) ∧
  (e.deferred ≠ none → e.bound = true)

/-- R2 and R12: no two entries hold one uid; no entry and no record holds all-zeros or all-ones; the recall list holds at
most 24 records, no two with one uid or one address, each naming a FREE entry at the generation it keeps; no uid is both in
an entry and in a record. -/
abbrev State.UidLaw (s : State) : Prop :=
  (∀ a, (s.entry a).uid ≠ some 0 ∧ (s.entry a).uid ≠ some (BitVec.allOnes 48)) ∧
  (∀ r ∈ s.dir.recalls, r.uid ≠ 0 ∧ r.uid ≠ BitVec.allOnes 48) ∧
  (∀ a b, (s.entry a).uid ≠ none → (s.entry a).uid = (s.entry b).uid → a = b) ∧
  s.dir.recalls.length ≤ 24 ∧ (s.dir.recalls.map fun r => r.uid).Nodup ∧ (s.dir.recalls.map fun r => r.addr).Nodup ∧
  (∀ r ∈ s.dir.recalls, (s.entry r.addr).state = .free ∧ (s.entry r.addr).gen = r.gen) ∧
  (∀ r ∈ s.dir.recalls, ∀ a, (s.entry a).uid ≠ some r.uid)

/-- R48, R55 to R61: the engine is in BINDING or CONFIRMING with the bind undecided exactly while one entry, the chosen
one, is in BINDING, and that entry holds the candidate uid; the engine then has a candidate in PARKING too. -/
abbrev State.RoundLaw (s : State) : Prop :=
  (∀ a, (s.entry a).state = .binding ↔
    (s.engine.state = .binding ∨ s.engine.state = .confirming) ∧ s.engine.ending = none ∧ s.engine.chosen = some a) ∧
  ((s.engine.state = .binding ∨ s.engine.state = .confirming) → s.engine.chosen ≠ none ∧ s.engine.candidate ≠ none) ∧
  (s.engine.state = .parking → s.engine.candidate ≠ none) ∧
  (∀ a, (s.entry a).state = .binding → (s.entry a).uid = s.engine.candidate)

/-- R16: the parked count never exceeds 1, and once a round is past its UNPARK it is 0 until the round parks. -/
abbrev State.ParkedLaw (s : State) : Prop :=
  s.dir.parked ≤ 1 ∧
  ((s.engine.state = .seeking ∨ s.engine.state = .binding ∨ s.engine.state = .confirming ∨ s.engine.state = .parking) →
    s.engine.ending = none → s.dir.parked = 0) ∧
  (s.engine.state = .unparking → s.line.record = none → s.dir.parked = 0)

/-- The engine state in which the engine names a token of this kind (R51, R52, R56, R58, R61). -/
def TxnKind.engineState : TxnKind → Option EngineState
  | .unpark => some .unparking
  | .seek => some .seeking
  | .assign => some .binding
  | .ping => some .confirming
  | .park => some .parking
  | .read | .write | .status => none

/-- Whether a transaction of this kind may stand in this state of the line controller (R79): a round's token is gone
when its gap begins. -/
def Txn.standsIn (t : Txn) : LineState → Bool
  | .command => true
  | .contention => t.kind == .seek
  | .answerWait | .answer => t.kind != .seek && t.kind != .unpark
  | .burstIn => t.kind == .read
  | .burstOut | .receiptWait => t.kind == .write
  | .idle => t.owner != .identification
  | .resetHold => false

/-- Whether a transaction of a host, the poller or the sweep is of a kind that R78 gives them. -/
def TxnKind.isAccess : TxnKind → Bool
  | .ping | .read | .write | .status => true
  | .unpark | .seek | .assign | .park => false

/-- R77: host `h`'s granted slot is what the transaction was granted for: its handle names the transaction's address and
carries the generation that the entry there still has, and its tag is the record's. -/
abbrev State.SlotMatches (s : State) (h : HostId) (t : Txn) : Prop :=
  ∃ r, (s.port h).slot = some { req := r, granted := true } ∧ r.tag = t.tag ∧ r.handle.addr.toNat = t.address.toNat ∧
    ∀ a, addrNum a = t.address.toNat → r.handle.gen = (s.entry a).gen

/-- R70, R77, R78, R111: what is on the line. A round occupies the line alone, and its token is the one its engine state names;
a host's, the poller's or the sweep's transaction addresses a PRESENT or SUSPECT entry, a host's at the generation of its
slot's handle, and STATUS alone addresses an entry with a deferred record, until a line reset cuts it, after which no
transaction and no gap is left. A slot is granted while its transaction is on the line. -/
abbrev State.LineLaw (s : State) : Prop :=
  (s.line.reset = none → ∀ t, s.line.record = some t →
    t.standsIn s.line.state = true ∧
    (t.owner = .identification → t.kind.engineState = some s.engine.state ∧ s.engine.ending = none) ∧
    (t.owner ≠ .identification → t.kind.isAccess = true ∧ s.engine.state.inRound = false ∧
      ∃ a, t.entryAddr = some a ∧ (s.entry a).bound = true ∧
        (t.kind = .status ↔ t.owner = .poller) ∧ (t.kind = .status ↔ (s.entry a).deferred ≠ none))) ∧
  (∀ t h, s.line.record = some t → t.owner = .host h → s.SlotMatches h t) ∧
  (∀ h, (∃ r, (s.port h).slot = some { req := r, granted := true }) ↔ ∃ t, s.line.record = some t ∧ t.owner = .host h) ∧
  (s.line.reset = none → s.engine.state.inRound = true → s.line.record ≠ none ∨ s.line.gap ≠ none) ∧
  (s.line.gap ≠ none → s.line.state = .idle) ∧
  (∀ lr, s.line.reset = some lr → s.engine.state.inRound = false ∧
    (lr.phase ≠ .cutPending → s.line.gap = none ∧ s.line.record = none)) ∧
  (s.engine.ending ≠ none → s.engine.state.inRound = true)

/-- R140: an active pass has an eligible entry at or above its cursor. -/
abbrev State.PassLaw (s : State) : Prop :=
  s.sweep.active = true → ∃ a, s.sweep.cursor ≤ a ∧ (s.entry a).bound = true ∧ (s.entry a).deferred = none

/-- The laws of the directory and of what may change it, taken together. -/
structure State.DirectoryLaw (s : State) : Prop where
  params : s.config.Wf
  entries : ∀ a, (s.entry a).Wf s.config.missLimit
  uids : s.UidLaw
  round : s.RoundLaw
  parked : s.ParkedLaw
  line : s.LineLaw
  pass : s.PassLaw

/-- R70: a free line has no waiting candidate. -/
abbrev State.NoWaitOnFreeLine (s : State) : Prop :=
  s.lineFree = true → s.systemWaits = false ∧ ∀ h, (s.port h).candidate = false

/-- What the directory serial counts (R15): every entry's state, uid, class and generation, and the recall list. -/
def State.counted (s : State) : (Addr → EntryState × Option Uid × Option Byte × BitVec 8) × List Recall :=
  (fun a => ((s.entry a).state, (s.entry a).uid, (s.entry a).cls, (s.entry a).gen), s.dir.recalls)

/-- A claim record's wait list holds at most 3 items, never two for one host and never one for the holder (R119). -/
abbrev Claim.Wf (c : Claim) : Prop :=
  c.waits.length ≤ 3 ∧ (c.waits.map fun w => w.host).Nodup ∧ ∀ w ∈ c.waits, w.host ≠ c.holder

/-- R119 at every entry. -/
abbrev State.ClaimsWf (s : State) : Prop := ∀ a c, (s.entry a).claim = some c → c.Wf

/-! ### The tags of a host's requests -/

/-- The tags of host `h`'s requests that have no reply yet: queued, in the slot and not dropped with a port reset, waiting
for a claim, deferred, and awaiting a RESET token (R90, R93, R151, R160, R172). -/
def State.openTags (s : State) (h : HostId) : List Tag :=
  (s.port h).queue.map (fun r => r.tag) ++
  (match (s.port h).slot with
   | some sl =>
     if sl.granted && s.line.record.any (fun t => t.owner == .host h && t.replyDropped) then [] else [sl.req.tag]
   | none => []) ++
  (allAddrs.flatMap fun a => match (s.entry a).claim with
   | some c => (c.waits.filter fun w => w.host = h).map fun w => w.tag
   | none => []) ++
  (allAddrs.flatMap fun a => match (s.entry a).deferred with
   | some d => if d.owner = some h then [d.tag] else []
   | none => []) ++
  (match s.line.reset with
   | some lr => (lr.requesters.filter fun q => q.host = h).map fun q => q.tag
   | none => [])

/-- R151, R160: the requests of a host that have no reply yet have distinct tags, and these are the owed ones. -/
abbrev State.OwedLaw (s : State) : Prop :=
  ∀ h, (s.openTags h).Nodup ∧ ∀ tag, tag ∈ (s.port h).owed ↔ tag ∈ s.openTags h

/-! ### The timers -/

/-- A timer runs that expires at step `n` by this command (R1, R11, R110, R120, R138). -/
abbrev State.Runs (s : State) (n : Nat) (c : Instr) : Prop :=
  (s.sweep.timer = some n ∧ c = .sweepIntervalExpiry) ∨
  ∃ a, ((s.entry a).state = .lost ∧ (s.entry a).quarantine = some n ∧ c = .quarantineExpiry a) ∨
    (∃ cl, (s.entry a).claim = some cl ∧
      ((n = cl.expires ∧ c = .leaseExpiry a) ∨ ∃ w ∈ cl.waits, n = w.expires ∧ c = .waitExpiry a w.host)) ∨
    (∃ d, (s.entry a).deferred = some d ∧ d.phase = .timing n ∧ c = .pollTimerExpiry a)

/-- R175: the time base has not passed the step of a running timer. -/
abbrev State.TimerLaw (s : State) : Prop := ∀ n c, s.Runs n c → s.time ≤ n

/-- A timer of step `n` may expire: the time base has not passed the step, and no running timer has an earlier one. -/
abbrev State.Reaches (s : State) (n : Nat) : Prop := s.time ≤ n ∧ ∀ m c, s.Runs m c → n ≤ m

/-! ### Requests at a take -/

/-- Host `h`'s dispatcher has request `r` at the head of its queue, with `rest` behind it, in a running controller. -/
abbrev State.AtHead (s : State) (h : HostId) (r : Request) (rest : List Request) : Prop :=
  s.inReset = false ∧ (s.port h).queue = r :: rest

/-- The state after a take that only places a reply: the request leaves the queue and port `h` receives the reply. -/
def State.replied (s : State) (h : HostId) (rest : List Request) (r : Reply) : State :=
  s.setPort h ({ s.port h with queue := rest }.placeReply r)

/-- The state after a take that places no reply. -/
def State.taken (s : State) (h : HostId) (rest : List Request) : State :=
  s.setPort h { s.port h with queue := rest }

/-- The command by which host `h`'s dispatcher takes a request: the row its code names, for CONFIGURE the row its
parameter names (R154, R167, R174). -/
def takeOf (h : HostId) (r : Request) : Instr :=
  match r.code.toNat with
  | 1 => .list h | 2 => .lookup h | 3 => .recalls h | 4 => .forget h
  | 5 => .claim h | 6 => .renew h | 7 => .release h | 8 => .revoke h
  | 9 => .read h | 10 => .write h | 11 => .ping h
  | 12 => .enumerate h | 13 => .subscribe h | 14 => .settings h
  | 15 =>
    match r.body.head?.map BitVec.toNat with
    | some 1 => .configureLineRate h | some 2 => .configureAnswerWindow h | some 3 => .configureRetryLimit h
    | some 4 => .configureMissLimit h | some 5 => .configureSweepInterval h | some 6 => .configureQuarantine h
    | some 7 => .configurePollInterval h | some 8 => .configurePollLimit h | _ => .configureUnknownParameter h
  | 16 => .lineReset h
  | _ => .invalidRequestCode h

/-! ### Runs -/

/-- Every step that answers a next state keeps a property: the property is an invariant of the machine. -/
def KeptByStep (P : State → Prop) : Prop := ∀ s t, P s → step s = .next t → P t

end Sys2Proof.Machine
end

