-- ==== Sys2Proof/Certificates/Slice0/Obligations.lean ====
section
/-! DEFINITION. The statements for the provers, in the order of OBLIGATIONS.json. A reply is written as a `Reply` and placed by
`Port.placeReply`; a take that only places a reply leaves `State.replied`, one that places none `State.taken`; the items of
an event are placed by `State.post` and `State.postAll`. What these do is stated by `RepliesAndNoticesArePlaced`. -/

open Sys2Proof Sys2Proof.Machine

/-! ### The queue of commands and the laws at reset -/

/-- A step runs the command at the front of the queue, on the state with the queue's rest. The queue `pending` is the model's
own: the manual has events, taken one after another, and no queue of them (DESIGN CHOICE, notes/assumptions/1.md). -/
def Obligations.StepRunsTheFrontCommand : Prop :=
  ∀ (c : Instr) (rest : List Instr) (s : State),
    step { s with pending := c :: rest } = exec c { s with pending := rest }

/-- With nothing commanded: in power-on reset nothing happens; while no running timer's step is the time, one step is one step
of the time base; otherwise a timer whose step is the time expires (R175). That an idle step stands for the passing of time, and
the order of timers that expire at one step, are the model's choice: notes/assumptions/2.md. -/
def Obligations.IdleStepLetsTimePass : Prop :=
  ∀ s : State, s.pending = [] →
    (s.inReset = true → step s = .next s) ∧
    (s.inReset = false → (∀ c, ¬ s.Runs s.time c) → step s = .next { s with time := s.time + 1 }) ∧
    (s.inReset = false → (∃ c, s.Runs s.time c) → ∃ c, s.Runs s.time c ∧ step s = exec c s)

/-- No command touches the queue of waiting commands, which is the model's own (DESIGN CHOICE, notes/assumptions/1.md). -/
def Obligations.CommandsLeaveTheWaitingQueue : Prop :=
  ∀ (c : Instr) (s t : State), exec c s = .next t → t.pending = s.pending

/-- The state in power-on reset meets every law that the steps keep. `State.reset` is the controller while PORn is still
asserted, which holds the values its chapters give for after power-on reset (DESIGN CHOICE, notes/assumptions/1.md), and for
items without such a value those of notes/assumptions/6.md (DESIGN CHOICE). -/
def Obligations.ResetMeetsEveryLaw : Prop :=
  State.reset.PortsWf ∧ State.reset.HeldPortsEmpty ∧ State.reset.ClaimsWf ∧ State.reset.NoWaitOnFreeLine ∧
    State.reset.DirectoryLaw ∧ State.reset.OwedLaw ∧ State.reset.TimerLaw

/-! ### Power-on reset (R25, R68, R72, R79, R137, R151, R166, R169, R170) -/

/-- The end of power-on reset: every block's stated value, and the line reset with reason POWER_ON begun. A port that HRSTn
holds stays held and receives no LINE_RESET notice: the model's choice, notes/assumptions/23.md. -/
def Obligations.PowerOnResetEndLeavesStatedValues : Prop :=
  ∀ (straps : BitVec 4) (s : State), s.inReset = true → ∃ t, exec (.powerOnResetEnd straps) s = .next t ∧
    (∀ a, t.entry a = { state := .free, uid := none, cls := none, gen := 0, miss := 0, quarantine := none,
                        claim := none, deferred := none }) ∧
    t.dir.recalls = [] ∧ t.dir.serial = 0 ∧ t.dir.parked = 0 ∧
    t.engine.state = .waiting ∧ t.engine.wanted = true ∧ t.engine.candidate = none ∧ t.engine.chosen = none ∧
    t.engine.openedWithUnpark = false ∧ t.engine.lastFailed = none ∧ t.engine.failures = 0 ∧
    t.sched = { side := .system, rotation := 3 } ∧
    t.line.state = .idle ∧ t.line.record = none ∧ t.line.rate = .m1 ∧
    t.line.reset = some { phase := .cutPending, reason := .powerOn, requesters := [] } ∧
    t.sweep = { timer := some 1000, active := false, cursor := 0 } ∧
    t.config = { rate := .m1, window := 24, retryLimit := 2, missLimit := 3, sweepInterval := 1000,
                 quarantine := 2000, pollInterval := 5, pollLimit := 400 } ∧
    t.time = 0 ∧ t.inReset = false ∧ t.pending = s.pending ∧
    ∀ h, (t.port h).queue = [] ∧ (t.port h).owed = [] ∧ (t.port h).slot = none ∧ (t.port h).overrun = false ∧
      (t.port h).mask = 0x19B ∧ (t.port h).manage = straps.getLsbD h.val ∧ (t.port h).held = (s.port h).held ∧
      (t.port h).outbound =
        if (s.port h).held then [] else [.notice { serial := 0, body := .lineReset .powerOn }]

/-- While PORn is asserted FCK is held low, FDA is released, every HATNn is deasserted, and no exchange changes anything;
the assertion itself changes nothing else (the model's reading: notes/assumptions/7.md). -/
def Obligations.PowerOnResetAssertedSilencesThePart : Prop :=
  ∀ s : State, ∃ t, exec .powerOnResetAsserted s = .next t ∧ t = { s with inReset := true } ∧
    t.fck = none ∧ t.fda = .released ∧ (∀ h, t.hatn h = false) ∧
    ∀ h, (∀ code tag body check, exec (.request h code tag body check) t = .next t) ∧
      (∀ began, exec (.fetch h began) t = .next t) ∧ (∀ tag check, exec (.cancel h tag check) t = .next t) ∧
      exec (.hostReset h) t = .next t

/-! ### Exchanges and port resets (Chapter 10) -/

/-- REQUEST: the first condition of R153 that applies gives the code; only ACCEPTED changes the port, which also keeps
the code it gave back. -/
def Obligations.RequestDecidedByFirstCondition : Prop :=
  ∀ (h : HostId) (code tag : Byte) (body : List Byte) (check : Byte) (s : State),
    s.inReset = false → (s.port h).held = false →
    exec (.request h code tag body check) s = .next (s.setPort h (
      let p := s.port h
      if check ≠ crc8Bytes ([code, tag, BitVec.ofNat 8 body.length] ++ body) ∨ 68 < body.length then { p with hdo := [0x03] }
      else if 8 ≤ p.owed.length ∨ 24 ≤ p.outbound.length + p.owed.length then { p with hdo := [0x01] }
      else if tag ∈ p.owed then { p with hdo := [0x02] }
      else { p with queue := p.queue ++ [{ code := code, tag := tag, body := body }], owed := p.owed ++ [tag], hdo := [0x00] }))

/-- The bytes of every item, as Sections 12.3 and 12.4 give them; and FETCH: EMPTY when the queue was empty as the exchange
began, else ITEM and the oldest item, with OVERRUN behind the rest when the flag is set. That an exchange which began on items
and ends on an empty queue gives EMPTY is the model's choice: notes/assumptions/24.md. -/
def Obligations.FetchRemovesTheOldestItem : Prop :=
  let two := fun x : BitVec 16 => [x.extractLsb' 8 8, x.extractLsb' 0 8]
  let six := fun u : Uid => [u.extractLsb' 40 8, u.extractLsb' 32 8, u.extractLsb' 24 8, u.extractLsb' 16 8,
                             u.extractLsb' 8 8, u.extractLsb' 0 8]
  let addr := fun a : Addr => BitVec.ofNat 8 (a.val + 1)
  let host := fun h : HostId => BitVec.ofNat 8 h.val
  let count := fun n : Nat => BitVec.ofNat 8 n
  let word := fun n : Nat => two (BitVec.ofNat 16 n)
  let flag := fun (b : Bool) (bit : Byte) => if b = true then bit else 0
  let cls := fun c : Option Byte => match c with | some x => x | none => 0xFF
  let status := fun x : ModStatus => match x with | .ok => (0 : Byte) | .pend => 1 | .reject => 2 | .fault => 3
  let entryState := fun x : EntryState => match x with
    | .free => (0 : Byte) | .binding => 1 | .present => 2 | .suspect => 3 | .lost => 4
  let outcome := fun o : ReplyOutcome => match o with
    | .done => (0x00 : Byte) | .granted => 0x01 | .stale => 0x02 | .held => 0x03 | .busy => 0x04 | .noAnswer => 0x05
    | .checkFailed => 0x06 | .refused => 0x07 | .timedOut => 0x08 | .aborted => 0x09 | .denied => 0x0A
    | .invalid => 0x0B | .waitExpired => 0x0C | .notFound => 0x0D | .notHolder => 0x0E | .uncertain => 0x0F
  let replyBody := fun b : ReplyBody => match b with
    | .empty => []
    | .readData bs => count bs.length :: bs
    | .written n => [count n]
    | .pinged v matching => two v ++ [flag matching 1]
    | .refused st v point => status st :: two v ++ [match point with | .command => 0 | .receipt => 1 | .status => 2]
    | .busy reason => [match reason with | .module => 0 | .deferred => 1]
    | .heldBy h => [host h]
    | .checkFailed point => [match point with | .answer => 0 | .burst => 1]
    | .uncertain j => [match j with | .absent => 0 | .garbled => 1]
    | .deferredDone n polls => count n :: word polls
    | .deferredRefused st v polls => status st :: two v ++ 2 :: word polls
    | .timedOut polls => word polls
    | .deferredAborted cause polls =>
      (match cause with | .moduleLost => 0 | .moduleRestarted => 1 | .lineReset => 2) :: word polls
    | .claim hd rest => hd.addr :: hd.gen :: match rest with
      | .nothing => []
      | .granted lease waited => word lease ++ [flag waited 1]
      | .renewed lease => word lease
      | .released handover => [flag handover 1]
      | .revoked old handover => [host old, flag handover 1]
      | .holder (some h) => [host h]
      | .holder none => [0xFF]
    | .records rs => rs.flatMap fun r => [addr r.addr, r.gen, entryState r.state, cls r.cls] ++ six r.uid ++
        [count r.miss, flag r.claimed 1 ||| flag r.claimedByAsker 2 ||| flag r.deferredPending 4 ||| flag r.cls.isSome 8]
    | .lookup (.entry a g st c) => [addr a, g, entryState st, cls c, flag c.isSome 1, 0]
    | .lookup (.recalled a g position) => [addr a, g, 0, 0xFF, 2, count position]
    | .lookup .unknown => [0, 0, 0, 0xFF, 0, 0]
    | .recalls rs => rs.flatMap fun r => six r.uid ++ [addr r.addr, r.gen]
    | .masks before now => two (before.setWidth 16) ++ two (now.setWidth 16)
    | .settings p manage halted =>
      [match p.rate with | .k250 => 0 | .m1 => 1 | .m2 => 2 | .m4 => 3, count p.window, count p.retryLimit,
       count p.missLimit] ++ word p.sweepInterval ++ word p.quarantine ++ word p.pollInterval ++ word p.pollLimit ++
      [flag manage 1 ||| flag halted 2]
    | .configured code before now => code :: two before ++ two now
    | .joined joined => [flag joined 1]
  let noticeBody := fun b : NoticeBody => match b with
    | .arrived a g u c returning => ((1 : Byte), [addr a, g] ++ six u ++ [cls c, flag c.isSome 1 ||| flag returning 2])
    | .restarted a old new => (2, [addr a, old, new])
    | .suspect a g miss => (3, [addr a, g, count miss])
    | .lost a g u => (4, [addr a, g] ++ six u)
    | .freed a recorded => (5, [addr a, flag recorded 1])
    | .parked u => (6, six u)
    | .bindFailed u => (7, six u)
    | .lineFault => (8, [])
    | .lineReset .powerOn => (9, [0, 0xFF])
    | .lineReset (.requested h) => (9, [1, host h])
    | .claimRevoked a g reason => (10, [addr a, g, match reason with
        | .leaseExpired => 0 | .moduleLost => 1 | .moduleRestarted => 2 | .revoked => 3 | .lineReset => 4])
    | .overrun => (11, [])
  (∀ r : Reply, itemBytes (.reply r) =
    [1, r.tag, r.kind, outcome r.outcome, r.qualifier] ++ two r.serial ++ count (replyBody r.body).length :: replyBody r.body) ∧
  (∀ n : Notice, itemBytes (.notice n) =
    [2, (noticeBody n.body).1] ++ two n.serial ++ count (noticeBody n.body).2.length :: (noticeBody n.body).2) ∧
  ∀ (h : HostId) (began : Bool) (s : State), s.inReset = false → (s.port h).held = false →
    exec (.fetch h began) s = .next (s.setPort h (
      let p := s.port h
      match p.outbound with
      | [] => { p with hdo := [0x21] }
      | i :: rest =>
        if began then { p with hdo := [0x21] }
        else if p.overrun then
          { p with outbound := rest ++ [.notice { serial := s.dir.serial, body := .overrun }], overrun := false,
                   hdo := 0x20 :: itemBytes i }
        else { p with outbound := rest, hdo := 0x20 :: itemBytes i }))

/-- CANCEL: a bad check byte is MALFORMED; else the first of the cases of R161 that matches the tag. -/
def Obligations.CancelDecidedByThePhaseItFinds : Prop :=
  ∀ (h : HostId) (tag check : Byte) (s : State), s.inReset = false → (s.port h).held = false →
    let p := s.port h
    let queued := ∃ r ∈ p.queue, r.tag = tag
    let slotted := ∃ r, p.slot = some { req := r, granted := false } ∧ r.tag = tag
    let waiting := ∃ a c, (s.entry a).claim = some c ∧ ∃ w ∈ c.waits, w.host = h ∧ w.tag = tag
    let replied := ∃ r, .reply r ∈ p.outbound ∧ r.tag = tag
    (check ≠ crc8Bytes [tag] → exec (.cancel h tag check) s = .next (s.setPort h { p with hdo := [0x03] })) ∧
    (check = crc8Bytes [tag] →
      (queued → exec (.cancel h tag check) s = .next (s.setPort h
        { p with queue := p.queue.filter (fun r => r.tag ≠ tag), owed := p.owed.erase tag, hdo := [0x10] })) ∧
      (¬ queued → slotted → exec (.cancel h tag check) s = .next (s.setPort h
        { p with slot := none, owed := p.owed.erase tag, hdo := [0x10] })) ∧
      (¬ queued → ¬ slotted → waiting → exec (.cancel h tag check) s = .next
        ((s.mapEntries fun e => { e with claim := e.claim.map fun c =>
            { c with waits := c.waits.filter fun w => ¬ (w.host = h ∧ w.tag = tag) } }).setPort h
          { p with owed := p.owed.erase tag, hdo := [0x10] })) ∧
      (¬ queued → ¬ slotted → ¬ waiting → (tag ∈ p.owed ∨ replied) →
        exec (.cancel h tag check) s = .next (s.setPort h { p with hdo := [0x11] })) ∧
      (¬ queued → ¬ slotted → ¬ waiting → tag ∉ p.owed → ¬ replied →
        exec (.cancel h tag check) s = .next (s.setPort h { p with hdo := [0x12] })))

/-- The first byte of a select period names the exchange, which is taken when its frame, or for FETCH the item or EMPTY, is
complete, and not before; later bytes are ignored. An exchange byte that names no exchange is answered with MALFORMED and changes
nothing else; a port that HRSTn holds takes no exchange, so that nothing changes. -/
def Obligations.UnknownExchangesAndHeldPorts : Prop :=
  ∀ (h : HostId) (s : State),
    (∀ began : Bool,
      let period := s.selectPeriod h began
      period [] = none ∧
      (∀ (code tag check : Byte) (body later : List Byte), body.length ≤ 255 →
        let frame := 0xA1 :: code :: tag :: BitVec.ofNat 8 body.length :: (body ++ [check])
        period (frame ++ later) = some (.request h code tag body check) ∧
        ∀ n, n < frame.length → period (frame.take n) = none) ∧
      (∀ sent : List Byte,
        let due := match (s.port h).outbound with
          | [] => 1
          | i :: _ => if began = true then 1 else 1 + (itemBytes i).length
        period (0xA2 :: sent) = if due ≤ sent.length then some (.fetch h began) else none) ∧
      (∀ (tag check : Byte) (later : List Byte), period (0xA3 :: tag :: check :: later) = some (.cancel h tag check)) ∧
      (∀ sent : List Byte, sent.length < 2 → period (0xA3 :: sent) = none) ∧
      (∀ sent : List Byte, period (0xA4 :: sent) = some (.hostReset h)) ∧
      (∀ (first : Byte) (sent : List Byte), first ∉ [0xA1, 0xA2, 0xA3, 0xA4] →
        period (first :: sent) = some (.unknownExchange h first))) ∧
    (s.inReset = false → (s.port h).held = false → ∀ first, first ∉ [0xA1, 0xA2, 0xA3, 0xA4] →
      exec (.unknownExchange h first) s = .next (s.setPort h { s.port h with hdo := [0x03] })) ∧
    ((s.port h).held = true →
      (∀ code tag body check, exec (.request h code tag body check) s = .next s) ∧
      (∀ began, exec (.fetch h began) s = .next s) ∧ (∀ tag check, exec (.cancel h tag check) s = .next s) ∧
      exec (.hostReset h) s = .next s ∧
      (∀ first, first ∉ [0xA1, 0xA2, 0xA3, 0xA4] → exec (.unknownExchange h first) s = .next s))

/-- HOST_RESET: the port's own state, the host's wait items and claims, its deferred records, its transaction on the line
and its LINE_RESET; another port receives the items of the handovers, in ascending order of address, and nothing else; the rest
of the directory, the engine, the pointers, the sweep, the store and the time stay. -/
def Obligations.HostResetReachesAllWorkOfTheHost : Prop :=
  ∀ (h : HostId) (s : State), s.inReset = false → (s.port h).held = false →
    let handed := fun (a : Addr) (c : Claim) => s.handOver a (c.waits.filter fun w => w.host ≠ h)
    let items := allAddrs.flatMap fun a => match (s.entry a).claim with
      | some c => if c.holder = h then (handed a c).2.1 else []
      | none => []
    ∃ t, exec (.hostReset h) s = .next t ∧
      t.port h = { s.port h with queue := [], owed := [], outbound := [], overrun := false, mask := 0x19B, hdo := [0x30],
                                 slot := (s.port h).slot.filter fun sl => sl.granted } ∧
      (∀ g, g ≠ h → t.port g = (s.postAll items).port g ∧
        (t.port g).queue = (s.port g).queue ∧ (t.port g).slot = (s.port g).slot ∧
        (t.port g).mask = (s.port g).mask ∧ (t.port g).manage = (s.port g).manage ∧ (t.port g).held = (s.port g).held ∧
        (t.port g).overrun = (s.port g).overrun ∧ (t.port g).hdo = (s.port g).hdo) ∧
      ((∀ a c, (s.entry a).claim = some c → c.holder = h → ∀ w ∈ c.waits, w.host = h) →
        ∀ g, g ≠ h → t.port g = s.port g) ∧
      (∀ a, { t.entry a with claim := (s.entry a).claim, deferred := (s.entry a).deferred } = s.entry a ∧
        (t.entry a).deferred = (s.entry a).deferred.map (fun d => if d.owner = some h then { d with owner := none } else d) ∧
        ((s.entry a).claim = none → (t.entry a).claim = none) ∧
        ∀ c, (s.entry a).claim = some c →
          (c.holder ≠ h → (t.entry a).claim = some { c with waits := c.waits.filter fun w => w.host ≠ h }) ∧
          (c.holder = h → (t.entry a).claim = ((handed a c).1.entry a).claim)) ∧
      t.line = { s.line with
        record := s.line.record.map (fun x => if x.owner = .host h then { x with replyDropped := true } else x)
        reset := s.line.reset.map (fun lr => { lr with requesters := lr.requesters.filter fun q => q.host ≠ h }) } ∧
      { t with ports := s.ports, dir := { t.dir with entries := s.dir.entries }, line := s.line } = s

/-- HRSTn: its falling edge does what HOST_RESET does, gives nothing back and holds the port; its rising edge lets the
port take exchanges again. In power-on reset the falling edge is the pin's alone (the model's reading:
notes/assumptions/23.md). -/
def Obligations.HrstnEdgesResetAndReleaseThePort : Prop :=
  ∀ (h : HostId) (s : State),
    ((s.port h).held = false → s.inReset = false → ∃ t, exec (.hostReset h) s = .next t ∧
      exec (.hrstnFall h) s = .next (t.setPort h { t.port h with held := true, hdo := [] })) ∧
    ((s.port h).held = false → s.inReset = true →
      exec (.hrstnFall h) s = .next (s.setPort h { s.port h with held := true })) ∧
    ((s.port h).held = true → exec (.hrstnRise h) s = .next (s.setPort h { s.port h with held := false }))

/-! ### The takes: shape and permission (R154, R155, R174) -/

/-- A code that names no request, and a body whose length is not in the column L of Section 12.2, are answered with INVALID
at the take; the reply's kind is the code as sent. Three clauses are the model's: the two handle bytes of an INVALID reply to a
short body of CLAIM, RENEW, RELEASE or REVOKE (DESIGN CHOICE, notes/assumptions/5.md), the qualifier of an INVALID RECALLS
(DEDUCED, notes/assumptions/26.md), and the row that decides a CONFIGURE whose body does not fit (DESIGN CHOICE,
notes/assumptions/8.md). -/
def Obligations.CodeAndShapeAreCheckedAtTheTake : Prop :=
  let fits := fun code n : Nat =>
    (code ∈ [12, 14, 16] ∧ n = 0) ∨ (code ∈ [1, 3] ∧ n = 1) ∨ (code ∈ [7, 8, 11, 13] ∧ n = 2) ∨ (code = 15 ∧ n = 3) ∨
    (code = 6 ∧ n = 4) ∨ (code = 9 ∧ n = 5) ∨ (code ∈ [2, 4, 5] ∧ n = 6) ∨ (code = 10 ∧ 4 ≤ n ∧ n ≤ 68)
  (∀ (code : Byte) (n : Nat), bodyFits code n = true ↔ fits code.toNat n) ∧
  ∀ (h : HostId) (r : Request) (rest : List Request) (s : State), s.AtHead h r rest →
    (¬ (1 ≤ r.code.toNat ∧ r.code.toNat ≤ 16) → exec (.invalidRequestCode h) s = .next (s.replied h rest
      { tag := r.tag, kind := r.code, outcome := .invalid, qualifier := 0, serial := s.dir.serial, body := .empty })) ∧
    ((1 ≤ r.code.toNat ∧ r.code.toNat ≤ 16) → r.code.toNat ∉ [5, 6, 7, 8] → ¬ fits r.code.toNat r.body.length →
      (r.code.toNat ∈ [9, 10, 11] → (s.port h).slot = none) →
      exec (takeOf h r) s = .next (s.replied h rest
        { tag := r.tag, kind := r.code, outcome := .invalid,
          qualifier := if r.code = 3 then BitVec.ofNat 8 s.dir.recalls.length else 0,
          serial := s.dir.serial, body := .empty })) ∧
    (r.code.toNat ∈ [5, 6, 7, 8] → ¬ fits r.code.toNat r.body.length →
      ∃ hd n, exec (takeOf h r) s = .next { s.replied h rest
        { tag := r.tag, kind := r.code, outcome := .invalid, qualifier := 0, serial := s.dir.serial,
          body := .claim hd .nothing } with freeIndex := n } ∧
        (∀ a, r.body.head? = some a → hd.addr = a) ∧ (∀ a g tail, r.body = a :: g :: tail → hd = ⟨a, g⟩))

/-- FORGET, CONFIGURE, LINE_RESET and REVOKE of a host without the manage flag are answered with DENIED, and nothing else
happens; REVOKE's reply carries the handle. -/
def Obligations.ManagingRequestsDeniedWithoutTheFlag : Prop :=
  ∀ (h : HostId) (r : Request) (rest : List Request) (s : State), s.AtHead h r rest →
    bodyFits r.code r.body.length = true → (s.port h).manage = false →
    (r.code.toNat ∈ [4, 15, 16] → exec (takeOf h r) s = .next (s.replied h rest
      { tag := r.tag, kind := r.code, outcome := .denied, qualifier := 0, serial := s.dir.serial, body := .empty })) ∧
    (r.code.toNat = 8 → exec (takeOf h r) s = .next (s.replied h rest
      { tag := r.tag, kind := r.code, outcome := .denied, qualifier := 0, serial := s.dir.serial,
        body := .claim (bodyHandle r) .nothing }))

/-! ### The directory requests (R21 to R24) -/

/-- LIST: INVALID outside 1 to 62, else the records of the first 8 entries from the starting address that are not FREE. -/
def Obligations.ListReportsEntriesFromAnAddress : Prop :=
  ∀ (h : HostId) (tag b : Byte) (rest : List Request) (s : State),
    s.AtHead h { code := 0x01, tag := tag, body := [b] } rest →
    (¬ (1 ≤ b.toNat ∧ b.toNat ≤ 62) → exec (.list h) s = .next (s.replied h rest
      { tag := tag, kind := 0x01, outcome := .invalid, qualifier := 0, serial := s.dir.serial, body := .empty })) ∧
    ((1 ≤ b.toNat ∧ b.toNat ≤ 62) → exec (.list h) s = .next (s.replied h rest
      { tag := tag, kind := 0x01, outcome := .done, qualifier := 0, serial := s.dir.serial,
        body := .records (((allAddrs.filter fun a => (s.entry a).state ≠ .free ∧ b.toNat ≤ addrNum a).take 8).map fun a =>
          { addr := a, gen := (s.entry a).gen, state := (s.entry a).state, cls := (s.entry a).cls,
            uid := (s.entry a).uid.getD 0, miss := (s.entry a).miss, claimed := (s.entry a).claim.isSome,
            claimedByAsker := (s.entry a).claim.map (fun c => c.holder) = some h,
            deferredPending := (s.entry a).deferred.isSome }) }))

/-- LOOKUP: the first case of R22 that matches the uid. -/
def Obligations.LookupFindsTheUid : Prop :=
  ∀ (h : HostId) (tag : Byte) (u : Uid) (rest : List Request) (s : State),
    s.AtHead h { code := 0x02, tag := tag, body := bytes48 u } rest →
    let holds := fun a => (s.entry a).state ≠ .free ∧ (s.entry a).uid = some u
    (∀ a, holds a → (∀ b, b < a → ¬ holds b) → exec (.lookup h) s = .next (s.replied h rest
      { tag := tag, kind := 0x02, outcome := .done, qualifier := 0, serial := s.dir.serial,
        body := .lookup (.entry a (s.entry a).gen (s.entry a).state (s.entry a).cls) })) ∧
    ((∀ a, ¬ holds a) → ∀ older x newer, s.dir.recalls = older ++ x :: newer → x.uid = u → (∀ y ∈ older, y.uid ≠ u) →
      exec (.lookup h) s = .next (s.replied h rest
        { tag := tag, kind := 0x02, outcome := .notFound, qualifier := 0, serial := s.dir.serial,
          body := .lookup (.recalled x.addr x.gen (older.length + 1)) })) ∧
    ((∀ a, ¬ holds a) → (∀ x ∈ s.dir.recalls, x.uid ≠ u) → exec (.lookup h) s = .next (s.replied h rest
      { tag := tag, kind := 0x02, outcome := .notFound, qualifier := 0, serial := s.dir.serial, body := .lookup .unknown }))

/-- RECALLS: INVALID above position 23, else at most 12 records from the position on; the qualifier counts the list (in the
INVALID reply too, which is the model's reading: notes/assumptions/26.md). -/
def Obligations.RecallsReportsTheListFromAPosition : Prop :=
  ∀ (h : HostId) (tag b : Byte) (rest : List Request) (s : State),
    s.AtHead h { code := 0x03, tag := tag, body := [b] } rest →
    exec (.recalls h) s = .next (s.replied h rest
      { tag := tag, kind := 0x03, qualifier := BitVec.ofNat 8 s.dir.recalls.length, serial := s.dir.serial,
        outcome := if b.toNat ≤ 23 then .done else .invalid,
        body := if b.toNat ≤ 23 then .recalls ((s.dir.recalls.drop b.toNat).take 12) else .empty })

/-- FORGET with the manage flag: a recall record is removed; a LOST entry is freed without a record, and FREED follows the
reply; a bound or binding uid is INVALID; an unknown one NOT_FOUND. Whatever becomes a candidate is granted a free line. That a
DONE reply carries the serial as this very request leaves it is DEDUCED: notes/assumptions/18.md. -/
def Obligations.ForgetRemovesARecordOrFreesALostEntry : Prop :=
  ∀ (h : HostId) (tag : Byte) (u : Uid) (rest : List Request) (s : State),
    s.AtHead h { code := 0x04, tag := tag, body := bytes48 u } rest → (s.port h).manage = true →
    let holds := fun a => (s.entry a).state ≠ .free ∧ (s.entry a).uid = some u
    let reply := fun (o : ReplyOutcome) (n : BitVec 16) =>
      ({ tag := tag, kind := 0x04, outcome := o, qualifier := 0, serial := n, body := .empty } : Reply)
    ((∃ x ∈ s.dir.recalls, x.uid = u) → exec (.forget h) s = .next
      (({ s with dir := { s.dir with recalls := s.dir.recalls.filter (fun x => x.uid ≠ u), serial := s.dir.serial + 1 } }
        : State).replied h rest (reply .done (s.dir.serial + 1))).grant) ∧
    ((∀ x ∈ s.dir.recalls, x.uid ≠ u) → ∀ a, holds a → (∀ b, b < a → ¬ holds b) →
      ((s.entry a).state = .lost → exec (.forget h) s = .next
        ((((s.setEntry a { gen := (s.entry a).gen }).bumpSerial.wantIfParked.replied h rest
          (reply .done (s.dir.serial + 1))).post (.notice (.freed a false))).grant)) ∧
      ((s.entry a).state ≠ .lost → exec (.forget h) s = .next ((s.replied h rest (reply .invalid s.dir.serial)).grant))) ∧
    ((∀ x ∈ s.dir.recalls, x.uid ≠ u) → (∀ a, ¬ holds a) →
      exec (.forget h) s = .next ((s.replied h rest (reply .notFound s.dir.serial)).grant))

/-! ### The claim requests (R121 to R127) -/

/-- The checks of R121 in their order, with the reply that carries the handle. -/
def Obligations.ClaimRequestsAreCheckedInOrder : Prop :=
  ∀ (h : HostId) (r : Request) (rest : List Request) (s : State), s.AtHead h r rest →
    r.code.toNat ∈ [5, 6, 7, 8] → bodyFits r.code r.body.length = true → (r.code.toNat = 8 → (s.port h).manage = true) →
    let hd := bodyHandle r
    let leaseBad := r.code.toNat ∈ [5, 6] ∧ bodyWord r 2 = 0
    let reply := fun (o : ReplyOutcome) => ({ tag := r.tag, kind := r.code, outcome := o, qualifier := 0,
                                              serial := s.dir.serial, body := .claim hd .nothing } : Reply)
    (¬ (1 ≤ hd.addr.toNat ∧ hd.addr.toNat ≤ 62) → exec (takeOf h r) s = .next (s.replied h rest (reply .invalid))) ∧
    ∀ a, addrNum a = hd.addr.toNat →
      (leaseBad → exec (takeOf h r) s = .next (s.replied h rest (reply .invalid))) ∧
      (¬ leaseBad → ¬ ((s.entry a).bound = true ∧ (s.entry a).gen = hd.gen) →
        exec (takeOf h r) s = .next (s.replied h rest (reply .stale)))

/-- CLAIM with a current handle and a lease of 1 or more, decided by the entry's record (R122, R123). -/
def Obligations.ClaimDecidedByTheRecord : Prop :=
  ∀ (h : HostId) (tag ha hg : Byte) (l1 l0 w1 w0 : Byte) (rest : List Request) (s : State) (a : Addr),
    s.AtHead h { code := 0x05, tag := tag, body := [ha, hg, l1, l0, w1, w0] } rest →
    ha = addr8 a → (s.entry a).bound = true → hg = (s.entry a).gen →
    let lease := (l1 ++ l0).toNat
    let wait := (w1 ++ w0).toNat
    let reply := fun (o : ReplyOutcome) (b : ClaimBody) => ({ tag := tag, kind := 0x05, outcome := o, qualifier := 0,
                                                              serial := s.dir.serial, body := .claim ⟨ha, hg⟩ b } : Reply)
    1 ≤ lease →
    ((s.entry a).claim = none → exec (.claim h) s = .next
      ((s.setEntry a { s.entry a with claim := some { holder := h, expires := s.time + lease, waits := [] } }).replied h rest
        (reply .granted (.granted lease false)))) ∧
    (∀ c, (s.entry a).claim = some c →
      (c.holder = h → exec (.claim h) s = .next
        ((s.setEntry a { s.entry a with claim := some { c with expires := s.time + lease } }).replied h rest
          (reply .granted (.granted lease false)))) ∧
      (c.holder ≠ h → wait = 0 → exec (.claim h) s = .next (s.replied h rest (reply .held (.holder (some c.holder))))) ∧
      (c.holder ≠ h → wait ≠ 0 → (∃ w ∈ c.waits, w.host = h) →
        exec (.claim h) s = .next (s.replied h rest (reply .invalid .nothing))) ∧
      (c.holder ≠ h → wait ≠ 0 → (∀ w ∈ c.waits, w.host ≠ h) → exec (.claim h) s = .next
        ((s.setEntry a { s.entry a with claim := some { c with waits := c.waits ++
            [{ host := h, tag := tag, handle := ⟨ha, hg⟩, lease := lease, expires := s.time + wait }] } }).taken h rest)))

/-- RENEW with a current handle and a lease of 1 or more (R125). -/
def Obligations.RenewRestartsTheHoldersLease : Prop :=
  ∀ (h : HostId) (tag ha hg : Byte) (l1 l0 : Byte) (rest : List Request) (s : State) (a : Addr),
    s.AtHead h { code := 0x06, tag := tag, body := [ha, hg, l1, l0] } rest →
    ha = addr8 a → (s.entry a).bound = true → hg = (s.entry a).gen →
    let lease := (l1 ++ l0).toNat
    let reply := fun (o : ReplyOutcome) (b : ClaimBody) => ({ tag := tag, kind := 0x06, outcome := o, qualifier := 0,
                                                              serial := s.dir.serial, body := .claim ⟨ha, hg⟩ b } : Reply)
    1 ≤ lease →
    (∀ c, (s.entry a).claim = some c → c.holder = h → exec (.renew h) s = .next
      ((s.setEntry a { s.entry a with claim := some { c with expires := s.time + lease } }).replied h rest
        (reply .done (.renewed lease)))) ∧
    (∀ c, (s.entry a).claim = some c → c.holder ≠ h →
      exec (.renew h) s = .next (s.replied h rest (reply .notHolder (.holder (some c.holder))))) ∧
    ((s.entry a).claim = none → exec (.renew h) s = .next (s.replied h rest (reply .notHolder (.holder none))))

/-- RELEASE and REVOKE with a current handle: the claim is handed over, DONE stands first, CLAIM_REVOKED (REVOKE only)
second and the next holder's GRANTED last (R124, R126, R127). -/
def Obligations.ReleaseAndRevokeHandTheClaimOver : Prop :=
  ∀ (h : HostId) (tag ha hg : Byte) (rest : List Request) (s : State) (a : Addr),
    ha = addr8 a → (s.entry a).bound = true → hg = (s.entry a).gen →
    let notHolder := fun (code : Byte) (x : Option HostId) =>
      ({ tag := tag, kind := code, outcome := .notHolder, qualifier := 0, serial := s.dir.serial,
         body := .claim ⟨ha, hg⟩ (.holder x) } : Reply)
    let done := fun (code : Byte) (b : ClaimBody) => Post.reply h tag code .done 0 (.claim ⟨ha, hg⟩ b)
    (s.AtHead h { code := 0x07, tag := tag, body := [ha, hg] } rest →
      (∀ c, (s.entry a).claim = some c → c.holder = h → ∀ t ps flag, (s.taken h rest).handOver a c.waits = (t, ps, flag) →
        exec (.release h) s = .next (t.postAll (done 0x07 (.released flag) :: ps))) ∧
      (∀ c, (s.entry a).claim = some c → c.holder ≠ h →
        exec (.release h) s = .next (s.replied h rest (notHolder 0x07 (some c.holder)))) ∧
      ((s.entry a).claim = none → exec (.release h) s = .next (s.replied h rest (notHolder 0x07 none)))) ∧
    (s.AtHead h { code := 0x08, tag := tag, body := [ha, hg] } rest → (s.port h).manage = true →
      (∀ c, (s.entry a).claim = some c → ∀ t ps flag, (s.taken h rest).handOver a c.waits = (t, ps, flag) →
        exec (.revoke h) s = .next (t.postAll (done 0x08 (.revoked c.holder flag) ::
          .noticeTo c.holder (.claimRevoked a (s.entry a).gen .revoked) :: ps))) ∧
      ((s.entry a).claim = none → exec (.revoke h) s = .next (s.replied h rest (notHolder 0x08 none))))

/-- A handover: with nobody waiting the record is removed; a first item whose handle is current becomes the holder with its
own lease; one whose handle is not current is answered STALE and the next is considered (R124). -/
def Obligations.HandoverGrantsTheFirstCurrentWaiter : Prop :=
  ∀ (s : State) (a : Addr),
    s.handOver a [] = (s.setEntry a { s.entry a with claim := none }, [], false) ∧
    (∀ w ws b, s.checkHandle w.handle = .current b → s.handOver a (w :: ws) =
      (s.setEntry a { s.entry a with claim := some { holder := w.host, expires := s.time + w.lease, waits := ws } },
       [.reply w.host w.tag 0x05 .granted 0 (.claim w.handle (.granted w.lease true))], true)) ∧
    (∀ w ws t ps flag, (∀ b, s.checkHandle w.handle ≠ .current b) → s.handOver a ws = (t, ps, flag) →
      s.handOver a (w :: ws) = (t, .reply w.host w.tag 0x05 .stale 0 (.claim w.handle .nothing) :: ps, flag))

/-! ### Items on the outbound queues (R148, R157, R160, R165) -/

/-- A reply joins the newest end and its tag leaves the owed set; a maskable notice is offered to every port whose mask has
its bit, CLAIM_REVOKED to one port; a port that HRSTn holds takes none, one without free notice space sets its flag. That a
reply whose tag is not owed is placed nowhere is DEDUCED: notes/assumptions/13.md. -/
def Obligations.RepliesAndNoticesArePlaced : Prop :=
  ∀ s : State,
    (∀ h tag kind o q b,
      (tag ∈ (s.port h).owed → s.post (.reply h tag kind o q b) = s.setPort h { s.port h with
        outbound := (s.port h).outbound ++ [.reply { tag := tag, kind := kind, outcome := o, qualifier := q,
                                                     serial := s.dir.serial, body := b }]
        owed := (s.port h).owed.erase tag }) ∧
      (tag ∉ (s.port h).owed → s.post (.reply h tag kind o q b) = s)) ∧
    (∀ b, { s.post (.notice b) with ports := s.ports } = s ∧ ∀ g,
      let p := s.port g
      (s.post (.notice b)).port g =
        if (match maskBit b with | some i => p.mask.getLsbD i | none => false) = true ∧ p.held = false then
          if 24 ≤ p.outbound.length + p.owed.length then { p with overrun := true }
          else { p with outbound := p.outbound ++ [.notice { serial := s.dir.serial, body := b }] }
        else p) ∧
    (∀ h b, s.post (.noticeTo h b) = s.setPort h (
      let p := s.port h
      if p.held = true then p
      else if 24 ≤ p.outbound.length + p.owed.length then { p with overrun := true }
      else { p with outbound := p.outbound ++ [.notice { serial := s.dir.serial, body := b }] }))

/-! ### READ, WRITE and PING at the take (R94 to R98, R156) -/

/-- The five checks of R94 in their order, with attempts made 0, when the slot is empty. -/
def Obligations.LineRequestFailingACheckIsAnswered : Prop :=
  ∀ (h : HostId) (r : Request) (rest : List Request) (s : State), s.AtHead h r rest → (s.port h).slot = none →
    r.code.toNat ∈ [9, 10, 11] → bodyFits r.code r.body.length = true →
    let hd := bodyHandle r
    let argsBad := (r.code.toNat ∈ [9, 10] ∧ 4095 < (bodyWord r 2).toNat) ∨
      (r.code.toNat = 9 ∧ ¬ (1 ≤ (bodyByte r 4).toNat ∧ (bodyByte r 4).toNat ≤ 64)) ∨
      (r.code.toNat = 10 ∧ r.body.length = 4)
    let answered := fun (o : ReplyOutcome) (b : ReplyBody) => exec (takeOf h r) s = .next (s.replied h rest
      { tag := r.tag, kind := r.code, outcome := o, qualifier := 0, serial := s.dir.serial, body := b })
    (¬ (1 ≤ hd.addr.toNat ∧ hd.addr.toNat ≤ 62) ∨ argsBad → answered .invalid .empty) ∧
    (¬ argsBad → ∀ a, addrNum a = hd.addr.toNat →
      let current := (s.entry a).bound = true ∧ (s.entry a).gen = hd.gen
      (¬ current → answered .stale .empty) ∧
      (current → ∀ c, (s.entry a).claim = some c → c.holder ≠ h → answered .held (.heldBy c.holder)) ∧
      (current → (∀ c, (s.entry a).claim = some c → c.holder = h) → (s.entry a).deferred ≠ none →
        answered .busy (.busy .deferred)))

/-- A line request that passes every check moves to the slot, which keeps its operands, and a free line is granted. A line
request at the head of the queue waits while the slot is not empty: the take does nothing. -/
def Obligations.LineRequestPassingMovesToTheSlot : Prop :=
  ∀ (h : HostId) (tag ha hg : Byte) (rest : List Request) (s : State),
    (∀ a, (s.port h).slot = none → ha = addr8 a → (s.entry a).bound = true → hg = (s.entry a).gen →
      (∀ c, (s.entry a).claim = some c → c.holder = h) → (s.entry a).deferred = none →
      let slotted := fun (k : LineKind) (index : BitVec 12) (n : Nat) (data : List Byte) =>
        (s.setPort h { s.port h with queue := rest, slot := some { granted := false, req :=
          { tag := tag, kind := k, handle := ⟨ha, hg⟩, index := index, length := n, data := data } } }).grant
      (∀ i1 i0 n : Byte, s.AtHead h { code := 0x09, tag := tag, body := [ha, hg, i1, i0, n] } rest →
        (i1 ++ i0).toNat ≤ 4095 → 1 ≤ n.toNat → n.toNat ≤ 64 →
        exec (.read h) s = .next (slotted .read ((i1 ++ i0).setWidth 12) n.toNat [])) ∧
      (∀ (i1 i0 : Byte) (data : List Byte),
        s.AtHead h { code := 0x0A, tag := tag, body := ha :: hg :: i1 :: i0 :: data } rest →
        (i1 ++ i0).toNat ≤ 4095 → 1 ≤ data.length → data.length ≤ 64 →
        exec (.write h) s = .next (slotted .write ((i1 ++ i0).setWidth 12) data.length data)) ∧
      (s.AtHead h { code := 0x0B, tag := tag, body := [ha, hg] } rest →
        exec (.ping h) s = .next (slotted .ping 0 0 []))) ∧
    (∀ r, s.AtHead h r rest → (s.port h).slot ≠ none → r.code.toNat ∈ [9, 10, 11] → exec (takeOf h r) s = .next s)

/-! ### The scheduler (R70 to R78) -/

/-- A free line: no grant without a candidate; the side pointer decides between the sides; the first waiting slot after
the rotation pointer is chosen and checked, and one that fails is answered and emptied and the choice is made again. -/
def Obligations.SchedulerChoosesSideAndHost : Prop :=
  ∀ s : State,
    (s.lineFree = false → s.grant = s) ∧
    (s.lineFree = true →
      let systemWaits := s.engine.state = .waiting ∨ (∃ a d, (s.entry a).deferred = some d ∧ d.phase = .due) ∨
        (s.sweep.active = true ∧ ∃ a, s.sweep.cursor ≤ a ∧ (s.entry a).bound = true ∧ (s.entry a).deferred = none)
      let waits := fun h => ∃ r, (s.port h).slot = some { req := r, granted := false }
      (¬ systemWaits → (∀ h, ¬ waits h) → s.grant = s) ∧
      (systemWaits → ((∀ h, ¬ waits h) ∨ s.sched.side = .system) → s.grant = s.grantSystem) ∧
      (∀ (h : HostId) (r : LineRequest), (s.port h).slot = some { req := r, granted := false } →
        (¬ systemWaits ∨ s.sched.side = .host) →
        (∀ g, g ≠ h → (g - s.sched.rotation - 1).val < (h - s.sched.rotation - 1).val → ¬ waits g) →
        let s1 := { s with sched := { s.sched with rotation := h } }
        let refused := fun (o : ReplyOutcome) (b : ReplyBody) => s.grant =
          ((s1.setSlot h none).post (.reply h r.tag (lineKindCode r.kind) o 0 b)).grant
        (∀ a, addrNum a = r.handle.addr.toNat →
          let current := (s.entry a).bound = true ∧ (s.entry a).gen = r.handle.gen
          (¬ current → refused .stale .empty) ∧
          (current → ∀ c, (s.entry a).claim = some c → c.holder ≠ h → refused .held (.heldBy c.holder)) ∧
          (current → (∀ c, (s.entry a).claim = some c → c.holder = h) →
            ((s.entry a).deferred ≠ none → refused .busy (.busy .deferred)) ∧
            ((s.entry a).deferred = none → s.grant = s1.grantHost h a r)))))

/-- The record that each grant forms, and what the grant takes up: the line rate, the window and the attempt limit; the
engine before the poller before the sweep; the poll with the lowest address; the pass's next entry. -/
def Obligations.GrantFormsTheTransactionRecord : Prop :=
  ∀ s : State,
    let begun := fun (s' : State) (kind : TxnKind) (address : BitVec 6) (argument : BitVec 18) (owner : Owner) (tag : Tag)
        (limit : Nat) (buffer : List Byte) =>
      { s' with line := { s'.line with
          state := .command, rate := s.config.rate, gap := none, start := .untold
          record := some { kind := kind, address := address, argument := argument, owner := owner, tag := tag,
                           replyDropped := false, attempt := 1, limit := limit, mark := .clear, buffer := buffer,
                           window := s.config.window } } }
    (∀ (h : HostId) (a : Addr) (r : LineRequest),
      let s1 := s.setPort h { s.port h with slot := some { req := r, granted := true } }
      let s2 := { s1 with sched := { s.sched with side := .system } }
      let args := r.index ++ BitVec.ofNat 6 (r.length - 1)
      s.grantHost h a r = match r.kind with
        | .read => begun s2 .read (addr6 a) args (.host h) r.tag (s.config.retryLimit + 1) []
        | .write => begun s2 .write (addr6 a) args (.host h) r.tag (s.config.retryLimit + 1) r.data
        | .ping => begun s2 .ping (addr6 a) 0 (.host h) r.tag (s.config.retryLimit + 1) []) ∧
    (let s1 := { s with sched := { s.sched with side := .host } }
     (s.engine.state = .waiting →
       let round := fun st : EngineState => { s1 with engine :=
         { s.engine with state := st, wanted := false, candidate := none, chosen := none,
                         openedWithUnpark := decide (s.dir.parked ≠ 0), path := .newcomer, attempt := 0,
                         attemptLimit := 0, ending := none } }
       (s.dir.parked ≠ 0 → s.grantSystem = begun (round .unparking) .unpark 0 0 .identification 0 1 []) ∧
       (s.dir.parked = 0 → s.grantSystem = begun (round .seeking) .seek 0 0 .identification 0 1 [])) ∧
     (s.engine.state ≠ .waiting → ∀ a d, (s.entry a).deferred = some d → d.phase = .due →
       (∀ b, b < a → ∀ e, (s.entry b).deferred = some e → e.phase ≠ .due) →
       s.grantSystem = begun (s1.setEntry a { s.entry a with deferred := some { d with phase := .polling } })
         .status (addr6 a) 0 .poller 0 (s.config.retryLimit + 1) []) ∧
     (s.engine.state ≠ .waiting → (∀ a d, (s.entry a).deferred = some d → d.phase ≠ .due) → s.sweep.active = true →
       ∀ a, s.sweep.cursor ≤ a → (s.entry a).bound = true → (s.entry a).deferred = none →
       (∀ b, s.sweep.cursor ≤ b → b < a → ¬ ((s.entry b).bound = true ∧ (s.entry b).deferred = none)) →
       s.grantSystem = begun { s1 with sweep := { s.sweep with cursor := a } }
         .ping (addr6 a) 0 .sweep 0 (s.config.retryLimit + 1) []))

/-! ### Attempts on the line (R29, R79 to R86) -/

/-- The end of a gap: a transaction's next attempt, which takes up the answer window and empties a READ's buffer; with no
transaction and no round, a free line. -/
def Obligations.GapEndBeginsTheNextAttemptOrFreesTheLine : Prop :=
  ∀ (s : State) (g : Nat), s.inReset = false → s.line.state = .idle → s.line.reset = none → s.line.gap = some g →
    (∀ t, s.line.record = some t → t.owner ≠ .identification → 1 ≤ t.attempt →
      exec .lineGapEnd s = .next { s with line := { s.line with
        state := .command, gap := none, start := .untold, bitTimes := s.line.bitTimes + g
        record := some { t with attempt := t.attempt + 1, window := s.config.window,
                                buffer := if t.kind = .read then [] else t.buffer } } }) ∧
    (s.line.record = none → s.engine.state ∉ [.unparking, .seeking, .binding, .confirming, .parking] →
      exec .lineGapEnd s = .next
        ({ s with line := { s.line with gap := none, bitTimes := s.line.bitTimes + g } } : State).grant)

/-- The end of a gap within a round: the round's decided end and the next grant, SEEK after UNPARK, or the token of the
engine's state. ASSIGN and PARK attempts are counted, and attempt 1 fixes how many there may be. -/
def Obligations.GapEndWithinARound : Prop :=
  ∀ (s : State) (g : Nat), s.inReset = false → s.line.state = .idle → s.line.reset = none → s.line.gap = some g →
    s.line.record = none → s.engine.state ∈ [.unparking, .seeking, .binding, .confirming, .parking] →
    let s1 := { s with line := { s.line with gap := none, bitTimes := s.line.bitTimes + g } }
    let sends := fun (e : Engine) (kind : TxnKind) (address : BitVec 6) (argument : BitVec 18) =>
      exec .lineGapEnd s = .next { s1 with
        engine := e
        line := { s1.line with
          state := .command, start := .untold
          record := some { kind := kind, address := address, argument := argument, owner := .identification, tag := 0,
                           replyDropped := false, attempt := 1, limit := 1, mark := .clear, buffer := [],
                           window := s.config.window } } }
    let counted := { s.engine with
      attempt := s.engine.attempt + 1
      attemptLimit := if s.engine.attempt = 0 then s.config.retryLimit + 1 else s.engine.attemptLimit }
    (∀ how, s.engine.ending = some how → exec .lineGapEnd s = .next ({ s1 with engine := { s.engine with
        state := if how = .fouled then .halted else if s.engine.wanted = true then .waiting else .idle
        candidate := none, chosen := none, openedWithUnpark := false, path := .newcomer, attempt := 0, attemptLimit := 0,
        ending := none } } : State).grant) ∧
    (s.engine.ending = none →
      (s.engine.state = .unparking → sends { s.engine with state := .seeking } .seek 0 0) ∧
      (∀ a u, s.engine.state = .binding → s.engine.chosen = some a → s.engine.candidate = some u →
        sends counted .assign 63 (addr6 a ++ u.extractLsb' 0 12)) ∧
      (∀ a, s.engine.state = .confirming → s.engine.chosen = some a → sends s.engine .ping (addr6 a) 0) ∧
      (∀ u, s.engine.state = .parking → s.engine.candidate = some u → sends counted .park 63 (0#6 ++ u.extractLsb' 0 12)))

/-- A deferred start bit is sent when FDA has been released for 2 bit times in a row, or low for 24 of the deferral's own in a
row, and not before; the deferral comes to the controller as FDA's levels in it (DEDUCED: notes/assumptions/27.md), which begin
low where a join pulse was reported of it. The end bit of a token, which is not sent while its start bit waits, leads to
contention after SEEK, to the gap after UNPARK, which there replaces the parked count by 0 (DEDUCED: notes/assumptions/9.md), and
to the answer window after every other. -/
def Obligations.TokensLeadToTheirWindows : Prop :=
  ∀ s : State, s.inReset = false →
    (∀ levels : List Bool,
      let ended := fun seen : List Bool => (∃ p, seen = p ++ [true, true]) ∨ ∃ p, seen = p ++ List.replicate 24 false
      let whole := ended levels ∧ ∀ seen x later, levels = seen ++ x :: later → ¬ ended seen
      let waits := s.line.start = .untold ∨ ∃ low later, s.line.start = .deferred low ∧ levels = List.replicate low false ++ later
      let sends := s.line.state = .command ∧ waits ∧ ∀ lr, s.line.reset = some lr → lr.phase ≠ .cutPending
      (whole → sends → exec (.startBitDeferralEnd levels) s = .next
        { s with line := { s.line with start := .sent, bitTimes := s.line.bitTimes + levels.length } }) ∧
      (whole → ¬ sends → exec (.startBitDeferralEnd levels) s = .refused .lineNotInThatState) ∧
      (¬ whole → exec (.startBitDeferralEnd levels) s = .refused .operandOutOfRange)) ∧
    (∀ low, s.line.start = .deferred low → exec .commandTokenEnd s = .refused .lineNotInThatState) ∧
    (s.line.state = .command → (∀ low, s.line.start ≠ .deferred low) → s.line.reset = none → ∀ t, s.line.record = some t →
      (t.kind = .seek → exec .commandTokenEnd s = .next
        { s with line := { s.line with state := .contention, bitTimes := s.line.bitTimes + 38 } }) ∧
      (t.kind = .unpark → exec .commandTokenEnd s = .next { s with
        dir := { s.dir with parked := 0 }
        line := { s.line with state := .idle, gap := some 8, start := .untold, record := none,
                              bitTimes := s.line.bitTimes + 38 } }) ∧
      (t.kind ≠ .seek → t.kind ≠ .unpark → exec .commandTokenEnd s = .next
        { s with line := { s.line with state := .answerWait, bitTimes := s.line.bitTimes + 38 } }))

/-- A failed attempt raises the failure mark; while attempts remain the transaction goes on after the gap, 560 bit times
after a garbled READ answer and 8 otherwise; after the last attempt the mark gives the outcome, which is delivered. -/
def Obligations.FailedAttemptsAreRetriedThenDelivered : Prop :=
  ∀ (s : State) (t : Txn), s.inReset = false → s.line.reset = none → s.line.record = some t →
    t.owner ≠ .identification →
    let fails := fun (c : Instr) (bits gap : Nat) (mark : FailMark) (o : TxnOutcome) =>
      let s1 := { s with line := { s.line with state := .idle, gap := some gap, start := .untold,
                                               bitTimes := s.line.bitTimes + bits } }
      let t1 := { t with mark := mark }
      (t.attempt < t.limit → exec c s = .next { s1 with line := { s1.line with record := some t1 } }) ∧
      (t.limit ≤ t.attempt → exec c s = .next (({ s1 with line := { s1.line with record := none } } : State).deliver t1 o))
    (s.line.state = .answerWait →
      (t.mark = .clear ∨ t.mark = .noAnswer → fails .answerWindowExpiry t.window 8 .noAnswer .noAnswer) ∧
      (t.mark = .checkFailed → fails .answerWindowExpiry t.window 8 .checkFailed .checkFailed) ∧
      (t.mark = .burstFailed → fails .answerWindowExpiry t.window 8 .burstFailed .burstFailed) ∧
      (∀ k bits, 1 ≤ k → k ≤ 255 → k ≤ t.window → judgeAnswer t bits = .garbled →
        let gap := if t.kind = .read then 560 else 8
        (t.mark ≠ .burstFailed → fails (.answerTokenJudged k bits) (k - 1 + 35) gap .checkFailed .checkFailed) ∧
        (t.mark = .burstFailed → fails (.answerTokenJudged k bits) (k - 1 + 35) gap .burstFailed .burstFailed))) ∧
    (s.line.state = .burstIn →
      fails .burstWindowExpiry t.window 8 .burstFailed .burstFailed ∧
      (∀ k data crc endBit, 1 ≤ k → k ≤ 255 → k ≤ t.window → data.length = (t.argument.extractLsb' 0 6).toNat + 1 →
        ¬ (endBit = true ∧ crc = crc16Bytes data) →
        fails (.readBurstJudged k data crc endBit) (k - 1 + (8 * data.length + 18)) 8 .burstFailed .burstFailed))

/-- A correct answer: OK to READ and WRITE leads to the burst, every other ends the transaction; the READ burst, the WRITE
burst and the receipt, correct, garbled or absent, which never lets the write be repeated. -/
def Obligations.AnswersBurstsAndReceiptsAreDelivered : Prop :=
  ∀ (s : State) (t : Txn), s.inReset = false → s.line.reset = none → s.line.record = some t →
    t.owner ≠ .identification →
    let goes := fun (c : Instr) (bits : Nat) (l : LineState) =>
      exec c s = .next { s with line := { s.line with state := l, bitTimes := s.line.bitTimes + bits } }
    let ends := fun (c : Instr) (bits : Nat) (t1 : Txn) (o : TxnOutcome) =>
      exec c s = .next (({ s with line := { s.line with state := .idle, gap := some 8, start := .untold, record := none,
                                                        bitTimes := s.line.bitTimes + bits } } : State).deliver t1 o)
    let n := (t.argument.extractLsb' 0 6).toNat + 1
    (∀ k bits st v, s.line.state = .answerWait → 1 ≤ k → k ≤ 255 → k ≤ t.window → judgeAnswer t bits = .correct st v →
      (t.kind = .read → st = .ok → goes (.answerTokenJudged k bits) (k - 1 + 35) .burstIn) ∧
      (t.kind = .write → st = .ok → goes (.answerTokenJudged k bits) (k - 1 + 35) .burstOut) ∧
      (¬ (t.kind ∈ [.read, .write] ∧ st = .ok) →
        ends (.answerTokenJudged k bits) (k - 1 + 35) t (.answered st v .command))) ∧
    (∀ k data crc, s.line.state = .burstIn → 1 ≤ k → k ≤ 255 → k ≤ t.window → data.length = n → crc = crc16Bytes data →
      ends (.readBurstJudged k data crc true) (k - 1 + (8 * data.length + 18)) { t with buffer := data }
        (.answered .ok (BitVec.ofNat 16 data.length) .command)) ∧
    (s.line.state = .burstOut → goes .writeBurstEnd (3 + (8 * n + 18)) .receiptWait) ∧
    (s.line.state = .receiptWait →
      ends .answerWindowExpiry t.window t (.receiptMissing .absent) ∧
      ends (.receiptJudged none) t.window t (.receiptMissing .absent) ∧
      ∀ k bits, 1 ≤ k → k ≤ 255 → k ≤ t.window →
        (judgeReceipt t bits = .garbled →
          ends (.receiptJudged (some (k, bits))) (k - 1 + 35) t (.receiptMissing .garbled)) ∧
        (∀ st v, judgeReceipt t bits = .correct st v →
          ends (.receiptJudged (some (k, bits))) (k - 1 + 35) t (.answered st v .receipt)))

/-! ### Delivery (R6 to R8, R87 to R90, R112 to R114, R140, R142) -/

/-- The outcome of a host's transaction becomes its reply, before the directory's items; the slot is emptied; a PEND
receipt makes a deferred record and no reply; a dropped reply is placed nowhere and its record has no owner. -/
def Obligations.HostReceivesTheOutcome : Prop :=
  ∀ (s : State) (t : Txn) (h : HostId) (a : Addr) (o : TxnOutcome) (s1 : State) (ps : List Post),
    t.owner = .host h → addrNum a = t.address.toNat → t.kind ∈ [.read, .write, .ping] →
    s.applyOutcome a o t.attempt = (s1, ps) →
    let code : Byte := if t.kind = .read then 0x09 else if t.kind = .write then 0x0A else 0x0B
    let n := (t.argument.extractLsb' 0 6).toNat + 1
    let freed := s1.setPort h { s1.port h with slot := none }
    let replies := fun (ro : ReplyOutcome) (b : ReplyBody) =>
      (t.replyDropped = false → s.deliver t o =
        freed.endIdlePass.postAll (.reply h t.tag code ro (BitVec.ofNat 8 t.attempt) b :: ps)) ∧
      (t.replyDropped = true → s.deliver t o = freed.endIdlePass.postAll ps)
    (∀ v p, o = .answered .ok v p →
      (t.kind = .read → replies .done (.readData t.buffer)) ∧
      (t.kind = .write → replies .done (.written n)) ∧
      (t.kind = .ping →
        (∀ u, (s1.entry a).uid = some u → replies .done (.pinged v (decide (u.extractLsb' 0 16 = v)))) ∧
        ((s1.entry a).uid = none → replies .done (.pinged v false)))) ∧
    (∀ v, o = .answered .pend v .command → t.kind ≠ .ping → replies .busy (.busy .module)) ∧
    (∀ v, o = .answered .pend v .receipt → t.kind = .write → s.deliver t o =
      (let d : Deferred := { owner := if t.replyDropped = true then none else some h, tag := t.tag, length := n, polls := 0,
                             phase := .timing (s1.time + s1.config.pollInterval) }
       (freed.setEntry a { s1.entry a with deferred := some d }).endIdlePass.postAll ps)) ∧
    (∀ st v p, o = .answered st v p → (st = .reject ∨ st = .fault ∨ (st = .pend ∧ t.kind = .ping)) →
      replies .refused (.refused st v p)) ∧
    (o = .noAnswer → replies .noAnswer .empty) ∧ (o = .checkFailed → replies .checkFailed (.checkFailed .answer)) ∧
    (o = .burstFailed → replies .checkFailed (.checkFailed .burst)) ∧
    (∀ j, o = .receiptMissing j → replies .uncertain (.uncertain j)) ∧ (o = .aborted → replies .aborted .empty)

/-- The poller's action on a STATUS outcome, after the directory's; the sweep's advance, whatever the outcome; and the end of an
active pass, by which its flag is cleared exactly when no eligible entry lies at or above the cursor. That the poller's item
stands before the directory's (TIMED_OUT before SUSPECT) is DEDUCED: notes/assumptions/19.md. -/
def Obligations.PollerAndSweepReceiveTheOutcome : Prop :=
  (∀ s : State,
    let left := ∃ b, s.sweep.cursor ≤ b ∧ (s.entry b).bound = true ∧ (s.entry b).deferred = none
    (s.sweep.active = true → ¬ left → s.endIdlePass = { s with sweep := { s.sweep with active := false } }) ∧
    (s.sweep.active = false ∨ left → s.endIdlePass = s)) ∧
  ∀ (s : State) (t : Txn) (a : Addr) (o : TxnOutcome) (s1 : State) (ps : List Post),
    addrNum a = t.address.toNat → s.applyOutcome a o t.attempt = (s1, ps) →
    (t.owner = .poller →
      ((s1.entry a).deferred = none → s.deliver t o = s1.endIdlePass.postAll ps) ∧
      (∀ d, (s1.entry a).deferred = some d →
        let item := fun (ro : ReplyOutcome) (b : ReplyBody) => match d.owner with
          | some h => [Post.reply h d.tag 0x0A ro (BitVec.ofNat 8 t.attempt ||| 0x80) b]
          | none => []
        let ended := fun (ro : ReplyOutcome) (b : ReplyBody) => s.deliver t o =
          ((s1.setEntry a { s1.entry a with deferred := none }).endIdlePass).postAll (item ro b ++ ps)
        let limited := fun polls : Nat =>
          (s1.config.pollLimit ≤ polls → ended .timedOut (.timedOut polls)) ∧
          (polls < s1.config.pollLimit → s.deliver t o =
            (let d1 := { d with polls := polls, phase := .timing (s1.time + s1.config.pollInterval) }
             (s1.setEntry a { s1.entry a with deferred := some d1 }).endIdlePass.postAll ps))
        (∀ v p, o = .answered .ok v p → ended .done (.deferredDone d.length d.polls)) ∧
        (∀ st v p, o = .answered st v p → st = .fault ∨ st = .reject → ended .refused (.deferredRefused st v d.polls)) ∧
        (∀ v p, o = .answered .pend v p → limited (d.polls + 1)) ∧
        (o = .noAnswer ∨ o = .checkFailed → limited d.polls))) ∧
    (t.owner = .sweep → s1.sweep.active = true → s.deliver t o =
      (({ s1 with sweep := if h : a.val + 1 < 62 then { s1.sweep with cursor := ⟨a.val + 1, h⟩ }
                           else { s1.sweep with active := false } } : State).endIdlePass).postAll ps) ∧
    (t.owner = .sweep → s1.sweep.active = false → s.deliver t o = s1.postAll ps)

/-- An outcome at an entry: only a PRESENT or SUSPECT entry takes it; a correct answer clears the misses; a miss makes it
SUSPECT below the limit and LOST at it, with the items in their order and, at a quarantine of 0, on to FREE. -/
def Obligations.OutcomesCountMisses : Prop :=
  ∀ (s : State) (a : Addr) (o : TxnOutcome) (n : Nat),
    let e := s.entry a
    (e.bound = false → s.applyOutcome a o n = (s, [])) ∧
    (e.bound = true →
      (∀ st v p, o = .answered st v p → s.applyOutcome a o n =
        ({ s with dir := { s.dir with
            entries := s.dir.entries.set a { e with state := .present, miss := 0 }
            serial := if e.state = .suspect then s.dir.serial + 1 else s.dir.serial } }, [])) ∧
      (o = .checkFailed ∨ o = .burstFailed ∨ o = .aborted → s.applyOutcome a o n = (s, [])) ∧
      ((o = .noAnswer ∨ ∃ j, o = .receiptMissing j) →
        (e.miss + 1 < s.config.missLimit → s.applyOutcome a o n =
          ({ s with dir := { s.dir with
              entries := s.dir.entries.set a { e with state := .suspect, miss := e.miss + 1 }
              serial := if e.state = .present then s.dir.serial + 1 else s.dir.serial } },
           [.notice (.suspect a e.gen (e.miss + 1))])) ∧
        (s.config.missLimit ≤ e.miss + 1 →
          let lost := { e with state := .lost, miss := 0, claim := none, deferred := none,
                               quarantine := some (s.time + s.config.quarantine) }
          let before :=
            (match e.claim with
             | some c => c.waits.map fun w => Post.reply w.host w.tag 0x05 .stale 0 (.claim w.handle .nothing)
             | none => []) ++
            (match e.deferred with
             | some { owner := some h, tag, polls, .. } =>
               [.reply h tag 0x0A .aborted (BitVec.ofNat 8 n ||| 0x80) (.deferredAborted .moduleLost polls)]
             | _ => []) ++
            (match e.claim with
             | some c => [.noticeTo c.holder (.claimRevoked a e.gen .moduleLost)]
             | none => []) ++
            [.notice (.lost a e.gen (e.uid.getD 0))]
          (s.config.quarantine ≠ 0 → s.applyOutcome a o n =
            ({ s with dir := { s.dir with entries := s.dir.entries.set a lost, serial := s.dir.serial + 1 } }, before)) ∧
          (∀ u, s.config.quarantine = 0 → e.uid = some u → s.applyOutcome a o n =
            (({ s with dir := { s.dir with
                  entries := s.dir.entries.set a { gen := e.gen }, serial := s.dir.serial + 1
                  recalls := (if 24 ≤ s.dir.recalls.length then s.dir.recalls.drop (s.dir.recalls.length - 23)
                              else s.dir.recalls) ++ [⟨u, a, e.gen⟩] } } : State).wantIfParked,
             before ++ [.notice (.freed a true)])))))

/-! ### Identification rounds (R17 to R20, R52 to R64) -/

/-- The contention result: all-ones ends the round empty, all-zeros fouled with LINE_FAULT, any other is the candidate uid,
for which the directory chooses an address: the engine goes on to BINDING, or to PARKING when there is none. -/
def Obligations.ContentionResultLeadsTheRoundOn : Prop :=
  ∀ (s : State) (t : Txn) (u : Uid), s.inReset = false → s.line.reset = none → s.line.state = .contention →
    s.line.record = some t →
    let s1 := { s with line := { s.line with state := .idle, gap := some 8, start := .untold, record := none,
                                             bitTimes := s.line.bitTimes + 51 } }
    (u = BitVec.allOnes 48 → exec (.contentionEnd u) s =
      .next ({ s1 with engine := { s.engine with ending := some .plain } } : State).endIdlePass) ∧
    (u = 0 → exec (.contentionEnd u) s =
      .next (({ s1 with engine := { s.engine with ending := some .fouled } } : State).endIdlePass.post (.notice .lineFault))) ∧
    (u ≠ BitVec.allOnes 48 → u ≠ 0 → ∀ s2 ps,
      (∀ a path, s1.chooseAddress u = (s2, ps, some (a, path)) → exec (.contentionEnd u) s =
        .next (({ s2 with engine := { s.engine with candidate := some u, chosen := some a, path := path,
                                                    state := .binding } } : State).endIdlePass.postAll ps)) ∧
      (s1.chooseAddress u = (s2, ps, none) → exec (.contentionEnd u) s =
        .next (({ s2 with engine := { s.engine with candidate := some u, chosen := none,
                                                    state := .parking } } : State).endIdlePass.postAll ps)))

/-- The address choice: the first of the five steps of R17 that matches, with the retirement of R18 and the return of R19. -/
def Obligations.AddressChoiceTakesTheFirstStepThatMatches : Prop :=
  ∀ (s : State) (u : Uid),
    let holds := fun a => (s.entry a).state ≠ .free ∧ (s.entry a).uid = some u
    let free := fun a => (s.entry a).state = .free
    let changed := fun (a : Addr) (e : Entry) (recalls : List Recall) =>
      { s with dir := { s.dir with entries := s.dir.entries.set a e, recalls := recalls, serial := s.dir.serial + 1 } }
    let newcomer := fun (a : Addr) (recalls : List Recall) => s.chooseAddress u =
      (changed a { s.entry a with state := .binding, uid := some u } recalls, [], some (a, .newcomer))
    (∀ a, holds a → (∀ b, b < a → ¬ holds b) →
      let e := s.entry a
      (e.bound = true → s.chooseAddress u =
        (changed a { e with state := .binding, cls := none, miss := 0, claim := none, deferred := none } s.dir.recalls,
         (match e.claim with
          | some c => c.waits.map fun w => Post.reply w.host w.tag 0x05 .stale 0 (.claim w.handle .nothing)
          | none => []) ++
         (match e.deferred with
          | some { owner := some h, tag, polls, .. } =>
            [.reply h tag 0x0A .aborted 0x80 (.deferredAborted .moduleRestarted polls)]
          | _ => []) ++
         (match e.claim with
          | some c => [.noticeTo c.holder (.claimRevoked a e.gen .moduleRestarted)]
          | none => []), some (a, .restart))) ∧
      (e.state = .lost → s.chooseAddress u =
        (changed a { e with state := .binding, cls := none, quarantine := none } s.dir.recalls, [], some (a, .returning)))) ∧
    ((∀ a, ¬ holds a) →
      (∀ older x newer, s.dir.recalls = older ++ x :: newer → x.uid = u → (∀ y ∈ older ++ newer, y.uid ≠ u) →
        newcomer x.addr (older ++ newer)) ∧
      ((∀ x ∈ s.dir.recalls, x.uid ≠ u) →
        (∀ a, free a → (∀ x ∈ s.dir.recalls, x.addr ≠ a) →
          (∀ b, b < a → free b → ∃ x ∈ s.dir.recalls, x.addr = b) → newcomer a s.dir.recalls) ∧
        ((∀ a, free a → ∃ x ∈ s.dir.recalls, x.addr = a) →
          (∀ a, free a → (∀ b, b < a → ¬ free b) → newcomer a (s.dir.recalls.filter fun x => x.addr ≠ a)) ∧
          ((∀ a, ¬ free a) → s.chooseAddress u = (s, [], none)))))

/-- The answers of a round: a correct ASSIGN answer completes the bind with its class; any other is followed by a confirming
PING, which completes it without a class, or leads to the next ASSIGN, or after the last attempt to the final failure, by
which the entry becomes LOST and the failure record counts the uid; at a quarantine of 0 it goes on to FREE with a recall record
in the same event, LOST, FREED, BIND_FAILED in this order and one serial increment (DEDUCED: notes/assumptions/20.md). -/
def Obligations.BindCompletesOrFails : Prop :=
  ∀ (s : State) (t : Txn) (a : Addr) (u : Uid) (c : Instr) (bits : Nat) (j : Judgement),
    s.inReset = false → s.line.reset = none → s.line.state = .answerWait → s.line.record = some t →
    t.owner = .identification → s.engine.chosen = some a → s.engine.candidate = some u → (s.entry a).uid = some u →
    ((c = .answerWindowExpiry ∧ bits = t.window ∧ j = .absent) ∨
     (∃ k b, 1 ≤ k ∧ k ≤ 255 ∧ k ≤ t.window ∧ c = .answerTokenJudged k b ∧ bits = k - 1 + 35 ∧ j = judgeAnswer t b)) →
    let e := s.entry a
    let s1 := { s with line := { s.line with state := .idle, gap := some 8, start := .untold, record := none,
                                             bitTimes := s.line.bitTimes + bits } }
    let completed := fun cls : Option Byte => exec c s = .next (({ s1 with
        dir := { s.dir with entries := s.dir.entries.set a { e with state := .present, gen := e.gen + 1, miss := 0, cls := cls }
                            serial := s.dir.serial + 1 }
        engine := { s.engine with lastFailed := none, failures := 0, wanted := true, ending := some .plain } } :
      State).endIdlePass.post (.notice (match s.engine.path with
        | .restart => .restarted a e.gen (e.gen + 1)
        | .newcomer => .arrived a (e.gen + 1) u cls false
        | .returning => .arrived a (e.gen + 1) u cls true)))
    let goesOn := fun st : EngineState =>
      exec c s = .next ({ s1 with engine := { s.engine with state := st } } : State).endIdlePass
    (t.kind = .assign → s.engine.state = .binding →
      (∀ st v, j = .correct st v → completed (some (v.extractLsb' 8 8))) ∧
      (j = .absent ∨ j = .garbled → goesOn .confirming)) ∧
    (t.kind = .ping → s.engine.state = .confirming →
      (j = .correct .ok (u.extractLsb' 0 16) → completed none) ∧
      (j ≠ .correct .ok (u.extractLsb' 0 16) → s.engine.attempt < s.engine.attemptLimit → goesOn .binding) ∧
      (j ≠ .correct .ok (u.extractLsb' 0 16) → s.engine.attemptLimit ≤ s.engine.attempt →
        let n := if s.engine.lastFailed = some u then s.engine.failures + 1 else 1
        let lost := { e with state := .lost, miss := 0, claim := none, deferred := none,
                             quarantine := some (s.time + s.config.quarantine) }
        let fails := fun (entry : Entry) (recalls : List Recall) (items : List Post) =>
          let s2 := { s1 with dir := { s.dir with
            entries := s.dir.entries.set a entry, recalls := recalls, serial := s.dir.serial + 1 } }
          (n < 3 → exec c s = .next (({ s2 with engine := { s.engine with
              lastFailed := some u, failures := n, wanted := true, ending := some .plain } } :
            State).endIdlePass.postAll items)) ∧
          (3 ≤ n → exec c s = .next (({ s2 with engine := { s.engine with
              lastFailed := none, failures := 0, wanted := false, ending := some .plain } } :
            State).endIdlePass.postAll (items ++ [.notice (.bindFailed u)])))
        (s.config.quarantine ≠ 0 → fails lost s.dir.recalls [.notice (.lost a e.gen u)]) ∧
        (s.config.quarantine = 0 → fails { gen := e.gen }
          ((if 24 ≤ s.dir.recalls.length then s.dir.recalls.drop (s.dir.recalls.length - 23) else s.dir.recalls) ++
            [⟨u, a, e.gen⟩])
          [.notice (.lost a e.gen u), .notice (.freed a true)])))

/-- The answer to PARK: a correct one parks the survivor and sets wanted unless the round opened with UNPARK; any other is
followed by the next attempt, or after the last by the failure record alone. -/
def Obligations.ParkSucceedsOrFails : Prop :=
  ∀ (s : State) (t : Txn) (u : Uid) (c : Instr) (bits : Nat) (j : Judgement),
    s.inReset = false → s.line.reset = none → s.line.state = .answerWait → s.line.record = some t →
    t.owner = .identification → t.kind = .park → s.engine.state = .parking → s.engine.candidate = some u →
    ((c = .answerWindowExpiry ∧ bits = t.window ∧ j = .absent) ∨
     (∃ k b, 1 ≤ k ∧ k ≤ 255 ∧ k ≤ t.window ∧ c = .answerTokenJudged k b ∧ bits = k - 1 + 35 ∧ j = judgeAnswer t b)) →
    let s1 := { s with line := { s.line with state := .idle, gap := some 8, start := .untold, record := none,
                                             bitTimes := s.line.bitTimes + bits } }
    let n := if s.engine.lastFailed = some u then s.engine.failures + 1 else 1
    (∀ st v, j = .correct st v → exec c s = .next (({ s1 with
        dir := { s.dir with parked := s.dir.parked + 1 }
        engine := { s.engine with lastFailed := none, failures := 0, ending := some .plain
                                  wanted := if s.engine.openedWithUnpark then s.engine.wanted else true } } :
      State).endIdlePass.post (.notice (.parked u)))) ∧
    (j = .absent ∨ j = .garbled →
      (s.engine.attempt < s.engine.attemptLimit → exec c s = .next (s1 : State).endIdlePass) ∧
      (s.engine.attemptLimit ≤ s.engine.attempt →
        (n < 3 → exec c s = .next ({ s1 with engine := { s.engine with
            lastFailed := some u, failures := n, wanted := true, ending := some .plain } } : State).endIdlePass) ∧
        (3 ≤ n → exec c s = .next (({ s1 with engine := { s.engine with
            lastFailed := none, failures := 0, wanted := false, ending := some .plain } } :
          State).endIdlePass.post (.notice (.bindFailed u))))))

/-- A join pulse is reported while no line reset has begun: in IDLE, but for a gap of fewer than 10 bit times, in which the low
cannot have begun; in COMMAND, while nothing is known of the start bit yet, which the pulse's low tells to be deferred. Wanted is
set and an IDLE engine becomes WAITING, which a free line grants; a token that FDA's low then holds back is being deferred and
its low is not reported again. Anywhere else the low is not recognised. FDA's levels are not in the state, so that these tests
stand for R30's (DEDUCED: notes/assumptions/11.md, 12.md). -/
def Obligations.JoinPulseSetsWanted : Prop :=
  ∀ s : State, s.inReset = false →
    let recognised := s.line.reset = none ∧
      ((s.line.state = .idle ∧ ∀ g, s.line.gap = some g → 10 ≤ g) ∨ (s.line.state = .command ∧ s.line.start = .untold))
    let s1 := ({ s with engine := { s.engine with
      wanted := true, state := if s.engine.state = .idle then .waiting else s.engine.state } } : State).grant
    (recognised → s1.line.state ≠ .command → exec .joinPulseRecognised s = .next s1) ∧
    (recognised → s1.line.state = .command → exec .joinPulseRecognised s = .next
      { s1 with line := { s1.line with start := .deferred (if s.line.state = .command then 1 else 0) } }) ∧
    (¬ recognised → exec .joinPulseRecognised s = .next s)

/-! ### The millisecond timers (R11, R110, R128, R129, R138 to R140, R175) -/

/-- Quarantine ends at its step: a recall record at the newest end, the entry FREE with its generation, FREED with the recorded
flag, and wanted while the parked count is not 0. The time base comes to the step with the expiry, which no running timer's
earlier step or a step passed lets happen (DESIGN CHOICE: notes/assumptions/3.md). -/
def Obligations.QuarantineExpiryFreesTheEntry : Prop :=
  ∀ (s : State) (a : Addr) (n : Nat) (u : Uid), s.inReset = false → (s.entry a).state = .lost →
    (s.entry a).quarantine = some n → (s.entry a).uid = some u →
    (¬ s.Reaches n → exec (.quarantineExpiry a) s = .refused .timerNotDue) ∧
    (s.Reaches n → exec (.quarantineExpiry a) s = .next ((({ s with
        time := n
        dir := { s.dir with
          entries := s.dir.entries.set a { gen := (s.entry a).gen }
          recalls := (if 24 ≤ s.dir.recalls.length then s.dir.recalls.drop (s.dir.recalls.length - 23) else s.dir.recalls)
            ++ [⟨u, a, (s.entry a).gen⟩]
          serial := s.dir.serial + 1 }
        engine := if s.dir.parked = 0 then s.engine else { s.engine with
          wanted := true, state := if s.engine.state = .idle then .waiting else s.engine.state } } :
      State).post (.notice (.freed a true))).grant))

/-- A wait runs out at its step: the item leaves the list, its host receives WAIT_EXPIRED with the holder, and the holder, its
lease and the other items stay. A host has one item on a record (R119, `ClaimsWf`). The time base comes to the step with the
expiry, which no running timer's earlier step or a step passed lets happen (DESIGN CHOICE: notes/assumptions/3.md). -/
def Obligations.WaitExpiryAnswersTheWaiter : Prop :=
  ∀ (s : State) (a : Addr) (c : Claim) (front back : List WaitItem) (w : WaitItem),
    s.inReset = false → (s.entry a).claim = some c → c.waits = front ++ w :: back →
    (∀ x ∈ front ++ back, x.host ≠ w.host) →
    (¬ s.Reaches w.expires → exec (.waitExpiry a w.host) s = .refused .timerNotDue) ∧
    (s.Reaches w.expires → exec (.waitExpiry a w.host) s = .next
      ((({ s with time := w.expires } : State).setEntry a
        { s.entry a with claim := some { c with waits := front ++ back } }).post
          (.reply w.host w.tag 0x05 .waitExpired 0 (.claim w.handle (.holder (some c.holder))))))

/-- The lease timer revokes and hands the claim over; the poll timer makes the record DUE; the interval timer starts again and
begins a pass when none is active, which ends at once when no entry is eligible. A new candidate is granted a free line. Each
expires at its step, to which the time base comes with it, and not before a running timer's earlier step or once its own has
passed (DESIGN CHOICE: notes/assumptions/3.md). -/
def Obligations.LeasePollAndSweepTimersExpire : Prop :=
  ∀ s : State, s.inReset = false →
    (∀ a c, (s.entry a).claim = some c →
      (¬ s.Reaches c.expires → exec (.leaseExpiry a) s = .refused .timerNotDue) ∧
      (s.Reaches c.expires → ∀ t ps flag, ({ s with time := c.expires } : State).handOver a c.waits = (t, ps, flag) →
        exec (.leaseExpiry a) s =
          .next (t.postAll (.noticeTo c.holder (.claimRevoked a (s.entry a).gen .leaseExpired) :: ps)))) ∧
    (∀ a d n, (s.entry a).deferred = some d → d.phase = .timing n →
      (¬ s.Reaches n → exec (.pollTimerExpiry a) s = .refused .timerNotDue) ∧
      (s.Reaches n → exec (.pollTimerExpiry a) s = .next
        (({ s with time := n } : State).setEntry a { s.entry a with deferred := some { d with phase := .due } }).grant)) ∧
    (∀ n, s.sweep.timer = some n →
      let eligible := ∃ a, (s.entry a).bound = true ∧ (s.entry a).deferred = none
      let started := fun sw : Sweep => exec .sweepIntervalExpiry s = .next ({ s with
        time := n, sweep := { sw with timer := some (n + s.config.sweepInterval) } } : State).grant
      (¬ s.Reaches n → exec .sweepIntervalExpiry s = .refused .timerNotDue) ∧
      (s.Reaches n →
        (s.sweep.active = true → started s.sweep) ∧
        (s.sweep.active = false → eligible → started { s.sweep with active := true, cursor := 0 }) ∧
        (s.sweep.active = false → ¬ eligible → started { s.sweep with active := false, cursor := 0 })))

/-! ### Control requests (R9, R66, R138, R147, R166 to R168) -/

/-- ENUMERATE: DONE at once; the failure record is cleared and wanted set; IDLE and HALTED become WAITING; after a fouled
result the round ends as any other. -/
def Obligations.EnumerateRequestsARound : Prop :=
  ∀ (h : HostId) (tag : Byte) (rest : List Request) (s : State), s.AtHead h { code := 0x0C, tag := tag, body := [] } rest →
    exec (.enumerate h) s = .next ((({ s with engine := { s.engine with
        lastFailed := none, failures := 0, wanted := true
        state := if s.engine.state = .idle ∨ s.engine.state = .halted then .waiting else s.engine.state
        ending := if s.engine.ending = none then none else some .plain } } : State).replied h rest
      { tag := tag, kind := 0x0C, outcome := .done, qualifier := 0, serial := s.dir.serial, body := .empty }).grant)

/-- SUBSCRIBE: a position beyond the nine maskable kinds is INVALID; else the mask is replaced, and the reply carries the
mask before and the mask now in force. -/
def Obligations.SubscribeReplacesTheMask : Prop :=
  ∀ (h : HostId) (tag m1 m0 : Byte) (rest : List Request) (s : State),
    s.AtHead h { code := 0x0D, tag := tag, body := [m1, m0] } rest →
    let m := m1 ++ m0
    (512 ≤ m.toNat → exec (.subscribe h) s = .next (s.replied h rest
      { tag := tag, kind := 0x0D, outcome := .invalid, qualifier := 0, serial := s.dir.serial, body := .empty })) ∧
    (m.toNat < 512 → exec (.subscribe h) s = .next (s.setPort h ({ s.port h with
        queue := rest, mask := m.extractLsb' 0 9 }.placeReply
      { tag := tag, kind := 0x0D, outcome := .done, qualifier := 0, serial := s.dir.serial,
        body := .masks (s.port h).mask (m.extractLsb' 0 9) })))

/-- SETTINGS: the eight parameters, the asking port's manage flag, the halted flag and the serial; no state changes. -/
def Obligations.SettingsReportsTheStore : Prop :=
  ∀ (h : HostId) (tag : Byte) (rest : List Request) (s : State), s.AtHead h { code := 0x0E, tag := tag, body := [] } rest →
    exec (.settings h) s = .next (s.replied h rest
      { tag := tag, kind := 0x0E, outcome := .done, qualifier := 0, serial := s.dir.serial,
        body := .settings s.config (s.port h).manage (decide (s.engine.state = .halted)) })

/-- CONFIGURE with the manage flag: a parameter in its range is replaced, and DONE carries the value before and the value
now; out of range, or naming no parameter, INVALID. The sweep interval stops the interval timer or starts a stopped one. -/
def Obligations.ConfigureReplacesOneParameter : Prop :=
  ∀ (h : HostId) (tag p v1 v0 : Byte) (rest : List Request) (s : State),
    s.AtHead h { code := 0x0F, tag := tag, body := [p, v1, v0] } rest → (s.port h).manage = true →
    let v := (v1 ++ v0).toNat
    let take := takeOf h { code := 0x0F, tag := tag, body := [p, v1, v0] }
    let invalid := exec take s = .next (s.replied h rest
      { tag := tag, kind := 0x0F, outcome := .invalid, qualifier := 0, serial := s.dir.serial, body := .empty })
    let sets := fun (inRange : Prop) (before : Nat) (s1 : State) =>
      (inRange → exec take s = .next (s1.replied h rest
        { tag := tag, kind := 0x0F, outcome := .done, qualifier := 0, serial := s.dir.serial,
          body := .configured p (BitVec.ofNat 16 before) (v1 ++ v0) })) ∧ (¬ inRange → invalid)
    (p = 1 →
      (v = 0 → sets True (rateCode s.config.rate) { s with config := { s.config with rate := .k250 } }) ∧
      (v = 1 → sets True (rateCode s.config.rate) { s with config := { s.config with rate := .m1 } }) ∧
      (v = 2 → sets True (rateCode s.config.rate) { s with config := { s.config with rate := .m2 } }) ∧
      (v = 3 → sets True (rateCode s.config.rate) { s with config := { s.config with rate := .m4 } }) ∧
      (4 ≤ v → invalid)) ∧
    (p = 2 → sets (8 ≤ v ∧ v ≤ 255) s.config.window { s with config := { s.config with window := v } }) ∧
    (p = 3 → sets (v ≤ 3) s.config.retryLimit { s with config := { s.config with retryLimit := v } }) ∧
    (p = 5 → sets (v = 0 ∨ (20 ≤ v ∧ v ≤ 60000)) s.config.sweepInterval { s with
      config := { s.config with sweepInterval := v }
      sweep := { s.sweep with timer := if v = 0 then none else if s.sweep.timer = none then some (s.time + v)
                                       else s.sweep.timer } }) ∧
    (p = 6 → sets (v ≤ 60000) s.config.quarantine { s with config := { s.config with quarantine := v } }) ∧
    (p = 7 → sets (1 ≤ v ∧ v ≤ 1000) s.config.pollInterval { s with config := { s.config with pollInterval := v } }) ∧
    (p = 8 → sets (1 ≤ v ∧ v ≤ 4095) s.config.pollLimit { s with config := { s.config with pollLimit := v } }) ∧
    (p.toNat ∉ [1, 2, 3, 4, 5, 6, 7, 8] → invalid)

/-- CONFIGURE of the miss limit: SUSPECT entries at or above the new limit are left with the limit less one, PRESENT when that
is 0; one serial increment when an entry changes state; no notice. That the DONE reply carries the incremented serial is DEDUCED:
notes/assumptions/18.md. -/
def Obligations.ConfigureMissLimitReachesSuspectEntries : Prop :=
  ∀ (h : HostId) (tag v1 v0 : Byte) (rest : List Request) (s : State),
    s.AtHead h { code := 0x0F, tag := tag, body := [4, v1, v0] } rest → (s.port h).manage = true →
    let v := (v1 ++ v0).toNat
    let reached := fun e : Entry => e.state = .suspect ∧ v ≤ e.miss
    (¬ (1 ≤ v ∧ v ≤ 7) → exec (.configureMissLimit h) s = .next (s.replied h rest
      { tag := tag, kind := 0x0F, outcome := .invalid, qualifier := 0, serial := s.dir.serial, body := .empty })) ∧
    ((1 ≤ v ∧ v ≤ 7) → ∀ n : BitVec 16,
      (v = 1 → (∃ a, reached (s.entry a)) → n = s.dir.serial + 1) →
      (v ≠ 1 ∨ (∀ a, ¬ reached (s.entry a)) → n = s.dir.serial) →
      ∃ t, exec (.configureMissLimit h) s = .next t ∧
        (∀ a, t.entry a = if reached (s.entry a) then
          { s.entry a with miss := v - 1, state := if v = 1 then .present else .suspect } else s.entry a) ∧
        { t with dir := { t.dir with entries := s.dir.entries } } =
          ({ s with config := { s.config with missLimit := v }, dir := { s.dir with serial := n } } : State).replied h rest
            { tag := tag, kind := 0x0F, outcome := .done, qualifier := 0, serial := n,
              body := .configured 4 (BitVec.ofNat 16 s.config.missLimit) (v1 ++ v0) })

/-! ### The line reset (R26, R32, R91, R143, R170 to R172) -/

/-- LINE_RESET with the manage flag: joined to a line reset in progress it waits for that reset's RESET token; else one
begins, in one event in every block, with its items in the order of R170. -/
def Obligations.LineResetBeginsOrJoins : Prop :=
  ∀ (h : HostId) (tag : Byte) (rest : List Request) (s : State),
    s.AtHead h { code := 0x10, tag := tag, body := [] } rest → (s.port h).manage = true →
    (∀ lr, s.line.reset = some lr → exec (.lineReset h) s = .next { s.taken h rest with
      line := { s.line with reset := some { lr with requesters := lr.requesters ++ [⟨h, tag, true⟩] } } }) ∧
    (s.line.reset = none → s.dir.recalls.length ≤ 24 →
      let busy : List Addr := allAddrs.filter fun a => (s.entry a).state ≠ .free
      let records : List Recall := s.dir.recalls ++ busy.filterMap fun a => (s.entry a).uid.map fun u => ⟨u, a, (s.entry a).gen⟩
      let s1 := { s.taken h rest with
        dir := { s.dir with
          entries := s.dir.entries.map fun (e : Entry) =>
            if e.state = EntryState.free then { e with claim := none, deferred := none } else { gen := e.gen }
          recalls := records.drop (records.length - 24), parked := 0
          serial := if busy = [] then s.dir.serial else s.dir.serial + 1 }
        engine := { s.engine with
          state := .waiting, wanted := true, candidate := none, chosen := none, openedWithUnpark := false,
          lastFailed := none, failures := 0, path := .newcomer, attempt := 0, attemptLimit := 0, ending := none }
        sweep := { s.sweep with active := false, cursor := 0 }
        line := { s.line with reset := some ⟨.cutPending, .requested h, [⟨h, tag, false⟩]⟩ } }
      exec (.lineReset h) s = .next (s1.postAll (
        (allAddrs.flatMap fun (a : Addr) => match (s.entry a).claim with
          | some c => c.waits.map fun (w : WaitItem) => Post.reply w.host w.tag 0x05 .aborted 0 (.claim w.handle .nothing)
          | none => []) ++
        (allAddrs.flatMap fun (a : Addr) => match (s.entry a).deferred with
          | some { owner := some g, tag := w, polls, .. } =>
            [Post.reply g w 0x0A .aborted 0x80 (.deferredAborted .lineReset polls)]
          | _ => []) ++
        (allAddrs.flatMap fun (a : Addr) => match (s.entry a).claim with
          | some c => [Post.noticeTo c.holder (.claimRevoked a (s.entry a).gen .lineReset)]
          | none => []) ++
        [Post.notice (.lineReset (.requested h))])))

/-- The line reset on the line: the cut, which ends a transaction ABORTED, takes up the line rate and begins the hold of 64
bit times; a wait of 8 to 600; the RESET token; the answers to its requesters, and the gap. -/
def Obligations.LineResetRunsOnTheLine : Prop :=
  ∀ (s : State) (lr : LineReset), s.inReset = false → s.line.reset = some lr →
    (lr.phase = .cutPending →
      let s1 := { s with line := { s.line with state := .resetHold, gap := none, start := .untold, record := none,
                                               rate := s.config.rate, reset := some { lr with phase := .hold } } }
      exec .resetHoldStart s = .next (match s.line.record with
        | some t => s1.deliver t .aborted
        | none => s1)) ∧
    (lr.phase = .hold → exec .resetHoldEnd s = .next { s with line := { s.line with
      reset := some { lr with phase := .wait }, bitTimes := s.line.bitTimes + 64 } }) ∧
    (lr.phase = .wait → ∀ n, 8 ≤ n → n ≤ 600 → exec (.resetWaitEnd n) s = .next { s with line := { s.line with
      state := .command, reset := some { lr with phase := .token }, bitTimes := s.line.bitTimes + n } }) ∧
    (lr.phase = .token → exec .resetTokenSent s = .next (({ s with line := { s.line with
        state := .idle, gap := some 8, start := .untold, record := none, reset := none,
        bitTimes := s.line.bitTimes + 38 } } : State).postAll
      (lr.requesters.map fun q => .reply q.host q.tag 0x10 .done 0 (.joined q.joined))))

/-! ### What the pins show (R27, R32, R159, R165, R169) -/

/-- HATNn is asserted exactly while host n's queue holds an item, in a running controller whose held ports are empty; FCK
runs at the current rate; FDA is pulled low through the hold, carries the token in COMMAND and the burst in BURST_OUT, and is
released in every other state and in the wait after the hold. -/
def Obligations.PinsFollowTheState : Prop :=
  ∀ s : State, s.inReset = false → s.HeldPortsEmpty →
    (∀ h, s.hatn h = true ↔ (s.port h).outbound ≠ []) ∧ s.fck = some s.line.rate ∧
    (∀ lr, s.line.state = .resetHold → s.line.reset = some lr →
      (lr.phase = .hold → s.fda = .low) ∧ (lr.phase = .wait → s.fda = .released)) ∧
    (∀ t, s.line.state = .command → s.line.record = some t →
      s.fda = .token (commandToken t.address (commandCode t.kind) t.argument)) ∧
    (∀ lr, s.line.state = .command → s.line.record = none → s.line.reset = some lr →
      s.fda = .token (commandToken 0 1 0)) ∧
    (∀ t, s.line.state = .burstOut → s.line.record = some t →
      s.fda = .burst ([false] ++ t.buffer.flatMap bitsOf ++ bitsOf (crc16Bytes t.buffer) ++ [true])) ∧
    (s.line.state ∈ [.idle, .answerWait, .answer, .burstIn, .receiptWait, .contention] → s.fda = .released)

/-! ### Rules over every command -/

/-- R4: outside power-on reset a generation changes only by a successful bind at the chosen address, by one modulo 256. -/
def Obligations.GenerationChangesOnlyByABind : Prop :=
  ∀ (c : Instr) (s t : State) (a : Addr), exec c s = .next t → (t.entry a).gen ≠ (s.entry a).gen →
    (∃ straps, c = .powerOnResetEnd straps) ∨
    ((∃ k bits, c = .answerTokenJudged k bits) ∧ s.engine.chosen = some a ∧ (t.entry a).state = .present ∧
      (t.entry a).gen = (s.entry a).gen + 1)

/-- R166: outside power-on reset a parameter changes only by a CONFIGURE that its port's manage flag lets pass. -/
def Obligations.ParametersChangeOnlyByConfigure : Prop :=
  ∀ (c : Instr) (s t : State), exec c s = .next t → t.config ≠ s.config →
    (∃ straps, c = .powerOnResetEnd straps) ∨
    ∃ h r rest, s.AtHead h r rest ∧ c = takeOf h r ∧ r.code = 0x0F ∧ (s.port h).manage = true

/-- R15: every command but the end of power-on reset increments the serial by one when it changes an entry's state, uid,
class or generation or the recall list, and leaves it when it changes none of these. -/
def Obligations.SerialCountsDirectoryChanges : Prop :=
  ∀ (c : Instr) (s t : State), s.DirectoryLaw → (∀ straps, c ≠ .powerOnResetEnd straps) → exec c s = .next t →
    (t.counted ≠ s.counted → t.dir.serial = s.dir.serial + 1) ∧ (t.counted = s.counted → t.dir.serial = s.dir.serial)

/-- R119, R151, R157, R160, R165, R175: every step keeps the laws of the host ports and of the claim records; with those of the
directory, that the owed tags of a host are exactly those of its requests that are queued, slotted, waiting, deferred or awaiting
a RESET token; and that the time base has not passed a running timer's step. -/
def Obligations.PortAndClaimLawsAreKept : Prop :=
  KeptByStep State.PortsWf ∧ KeptByStep State.HeldPortsEmpty ∧ KeptByStep State.ClaimsWf ∧ KeptByStep State.TimerLaw ∧
  KeptByStep fun s => s.DirectoryLaw ∧ s.PortsWf ∧ s.ClaimsWf ∧ s.OwedLaw

/-- R1, R2, R12, R16, R55, R70, R77, R111, R140, R166: every step keeps the laws of the directory, of the round, of the line and
of the sweep's pass. -/
def Obligations.DirectoryLawIsKept : Prop := KeptByStep State.DirectoryLaw

/-- R70: with those laws, every step keeps a free line without a waiting candidate. -/
def Obligations.NoCandidateWaitsOnAFreeLine : Prop :=
  KeptByStep fun s => s.DirectoryLaw ∧ s.NoWaitOnFreeLine

/-! ### The module line (R34 to R36, R41) -/

/-- R41: on a line that nothing else pulls low, the contention result is the smallest uid among the contenders, whose holder
alone has not lost; with no contender it is all-ones. On a line held low by a fault it is all-zeros, and every contender loses
but one with a uid of all-zeros, which no module carries. -/
def Obligations.ContentionYieldsTheSmallestUid : Prop :=
  (contentionSample (BitVec.allOnes 48) [] = BitVec.allOnes 48 ∧ contentionLeft (BitVec.allOnes 48) [] = []) ∧
  (∀ (cs : List Uid) (m : Uid), m ∈ cs → (∀ u ∈ cs, m.toNat ≤ u.toNat) →
    contentionSample (BitVec.allOnes 48) cs = m ∧ (cs.Nodup → contentionLeft (BitVec.allOnes 48) cs = [m])) ∧
  ∀ cs : List Uid, contentionSample 0 cs = 0 ∧ ((∀ u ∈ cs, u ≠ 0) → contentionLeft 0 cs = [])

/-- Tokens: a module accepts exactly the tokens that the encoding of a line command gives, at an address to which the command
applies, with every field as sent; an answer or a receipt is judged correct exactly when it is the encoding of the expected echo,
a status and a value that passes the tests of R36. -/
def Obligations.TokensDecodeAsEncoded : Prop :=
  (∀ (b : BitVec 38) (c : LineCommand) (address : BitVec 6) (argument : BitVec 18),
    let code : BitVec 4 := match c with
      | .reset => 1 | .unpark => 2 | .seek => 3 | .assign => 4 | .park => 5
      | .ping => 6 | .read => 7 | .write => 8 | .status => 9
    let applies := match c with
      | .reset | .unpark | .seek => address = 0
      | .assign | .park => address = 63
      | .ping | .read | .write | .status => 1 ≤ address.toNat ∧ address.toNat ≤ 62
    acceptToken b = some ⟨c, address, argument⟩ ↔
      applies ∧ b.setWidth 37 = (commandToken address code argument).setWidth 37) ∧
  (∀ (t : Txn) (b : BitVec 34) (st : ModStatus) (v : BitVec 16),
    let echo := if t.kind = .assign then t.argument.extractLsb' 12 6 else t.address
    let status : BitVec 3 := match st with | .ok => 0 | .pend => 1 | .reject => 2 | .fault => 3
    let n := (t.argument.extractLsb' 0 6).toNat + 1
    (judgeAnswer t b = .correct st v ↔
      ((t.kind = .read ∨ t.kind = .write) → st = .ok → v.toNat = n) ∧
      (t.kind = .assign → st = .ok ∧ v.extractLsb' 0 8 = 0) ∧ (t.kind = .park → st = .ok ∧ v = 0) ∧
      b = answerBits echo status v) ∧
    (judgeReceipt t b = .correct st v ↔
      (st = .ok ∨ st = .pend → v.toNat = n) ∧ b = answerBits echo status v) ∧
    judgeAnswer t b ≠ .absent ∧ judgeReceipt t b ≠ .absent)
end

