-- ==== Sys2Proof/Laws/State.lean ====
section
/-! SUPPORT. What each named update of the state leaves as it was: one lemma for each field, true by computation. -/

namespace Sys2Proof.Machine

open Sys2Proof

variable (s : State)

/-! ### setPort -/

@[simp] theorem State.setPort_dir (h : HostId) (p : Port) : (s.setPort h p).dir = s.dir := rfl
@[simp] theorem State.setPort_engine (h : HostId) (p : Port) : (s.setPort h p).engine = s.engine := rfl
@[simp] theorem State.setPort_sched (h : HostId) (p : Port) : (s.setPort h p).sched = s.sched := rfl
@[simp] theorem State.setPort_line (h : HostId) (p : Port) : (s.setPort h p).line = s.line := rfl
@[simp] theorem State.setPort_sweep (h : HostId) (p : Port) : (s.setPort h p).sweep = s.sweep := rfl
@[simp] theorem State.setPort_config (h : HostId) (p : Port) : (s.setPort h p).config = s.config := rfl
@[simp] theorem State.setPort_time (h : HostId) (p : Port) : (s.setPort h p).time = s.time := rfl
@[simp] theorem State.setPort_inReset (h : HostId) (p : Port) : (s.setPort h p).inReset = s.inReset := rfl
@[simp] theorem State.setPort_freeIndex (h : HostId) (p : Port) : (s.setPort h p).freeIndex = s.freeIndex := rfl
@[simp] theorem State.setPort_pending (h : HostId) (p : Port) : (s.setPort h p).pending = s.pending := rfl
@[simp] theorem State.setPort_entry (h : HostId) (p : Port) (x : Addr) : (s.setPort h p).entry x = s.entry x := rfl

/-! ### setEntry -/

@[simp] theorem State.setEntry_ports (a : Addr) (e : Entry) : (s.setEntry a e).ports = s.ports := rfl
@[simp] theorem State.setEntry_engine (a : Addr) (e : Entry) : (s.setEntry a e).engine = s.engine := rfl
@[simp] theorem State.setEntry_sched (a : Addr) (e : Entry) : (s.setEntry a e).sched = s.sched := rfl
@[simp] theorem State.setEntry_line (a : Addr) (e : Entry) : (s.setEntry a e).line = s.line := rfl
@[simp] theorem State.setEntry_sweep (a : Addr) (e : Entry) : (s.setEntry a e).sweep = s.sweep := rfl
@[simp] theorem State.setEntry_config (a : Addr) (e : Entry) : (s.setEntry a e).config = s.config := rfl
@[simp] theorem State.setEntry_time (a : Addr) (e : Entry) : (s.setEntry a e).time = s.time := rfl
@[simp] theorem State.setEntry_inReset (a : Addr) (e : Entry) : (s.setEntry a e).inReset = s.inReset := rfl
@[simp] theorem State.setEntry_freeIndex (a : Addr) (e : Entry) : (s.setEntry a e).freeIndex = s.freeIndex := rfl
@[simp] theorem State.setEntry_pending (a : Addr) (e : Entry) : (s.setEntry a e).pending = s.pending := rfl
@[simp] theorem State.setEntry_port (a : Addr) (e : Entry) (k : HostId) : (s.setEntry a e).port k = s.port k := rfl

/-! ### mapEntries -/

@[simp] theorem State.mapEntries_ports (f : Entry → Entry) : (s.mapEntries f).ports = s.ports := rfl
@[simp] theorem State.mapEntries_engine (f : Entry → Entry) : (s.mapEntries f).engine = s.engine := rfl
@[simp] theorem State.mapEntries_sched (f : Entry → Entry) : (s.mapEntries f).sched = s.sched := rfl
@[simp] theorem State.mapEntries_line (f : Entry → Entry) : (s.mapEntries f).line = s.line := rfl
@[simp] theorem State.mapEntries_sweep (f : Entry → Entry) : (s.mapEntries f).sweep = s.sweep := rfl
@[simp] theorem State.mapEntries_config (f : Entry → Entry) : (s.mapEntries f).config = s.config := rfl
@[simp] theorem State.mapEntries_time (f : Entry → Entry) : (s.mapEntries f).time = s.time := rfl
@[simp] theorem State.mapEntries_inReset (f : Entry → Entry) : (s.mapEntries f).inReset = s.inReset := rfl
@[simp] theorem State.mapEntries_freeIndex (f : Entry → Entry) : (s.mapEntries f).freeIndex = s.freeIndex := rfl
@[simp] theorem State.mapEntries_pending (f : Entry → Entry) : (s.mapEntries f).pending = s.pending := rfl
@[simp] theorem State.mapEntries_port (f : Entry → Entry) (k : HostId) : (s.mapEntries f).port k = s.port k := rfl

/-! ### setRecalls -/

@[simp] theorem State.setRecalls_ports (l : List Recall) : (s.setRecalls l).ports = s.ports := rfl
@[simp] theorem State.setRecalls_engine (l : List Recall) : (s.setRecalls l).engine = s.engine := rfl
@[simp] theorem State.setRecalls_sched (l : List Recall) : (s.setRecalls l).sched = s.sched := rfl
@[simp] theorem State.setRecalls_line (l : List Recall) : (s.setRecalls l).line = s.line := rfl
@[simp] theorem State.setRecalls_sweep (l : List Recall) : (s.setRecalls l).sweep = s.sweep := rfl
@[simp] theorem State.setRecalls_config (l : List Recall) : (s.setRecalls l).config = s.config := rfl
@[simp] theorem State.setRecalls_time (l : List Recall) : (s.setRecalls l).time = s.time := rfl
@[simp] theorem State.setRecalls_inReset (l : List Recall) : (s.setRecalls l).inReset = s.inReset := rfl
@[simp] theorem State.setRecalls_freeIndex (l : List Recall) : (s.setRecalls l).freeIndex = s.freeIndex := rfl
@[simp] theorem State.setRecalls_pending (l : List Recall) : (s.setRecalls l).pending = s.pending := rfl
@[simp] theorem State.setRecalls_port (l : List Recall) (k : HostId) : (s.setRecalls l).port k = s.port k := rfl

/-! ### setParked -/

@[simp] theorem State.setParked_ports (n : Nat) : (s.setParked n).ports = s.ports := rfl
@[simp] theorem State.setParked_engine (n : Nat) : (s.setParked n).engine = s.engine := rfl
@[simp] theorem State.setParked_sched (n : Nat) : (s.setParked n).sched = s.sched := rfl
@[simp] theorem State.setParked_line (n : Nat) : (s.setParked n).line = s.line := rfl
@[simp] theorem State.setParked_sweep (n : Nat) : (s.setParked n).sweep = s.sweep := rfl
@[simp] theorem State.setParked_config (n : Nat) : (s.setParked n).config = s.config := rfl
@[simp] theorem State.setParked_time (n : Nat) : (s.setParked n).time = s.time := rfl
@[simp] theorem State.setParked_inReset (n : Nat) : (s.setParked n).inReset = s.inReset := rfl
@[simp] theorem State.setParked_freeIndex (n : Nat) : (s.setParked n).freeIndex = s.freeIndex := rfl
@[simp] theorem State.setParked_pending (n : Nat) : (s.setParked n).pending = s.pending := rfl
@[simp] theorem State.setParked_port (n : Nat) (k : HostId) : (s.setParked n).port k = s.port k := rfl

/-! ### bumpSerial -/

@[simp] theorem State.bumpSerial_ports : (s.bumpSerial).ports = s.ports := rfl
@[simp] theorem State.bumpSerial_engine : (s.bumpSerial).engine = s.engine := rfl
@[simp] theorem State.bumpSerial_sched : (s.bumpSerial).sched = s.sched := rfl
@[simp] theorem State.bumpSerial_line : (s.bumpSerial).line = s.line := rfl
@[simp] theorem State.bumpSerial_sweep : (s.bumpSerial).sweep = s.sweep := rfl
@[simp] theorem State.bumpSerial_config : (s.bumpSerial).config = s.config := rfl
@[simp] theorem State.bumpSerial_time : (s.bumpSerial).time = s.time := rfl
@[simp] theorem State.bumpSerial_inReset : (s.bumpSerial).inReset = s.inReset := rfl
@[simp] theorem State.bumpSerial_freeIndex : (s.bumpSerial).freeIndex = s.freeIndex := rfl
@[simp] theorem State.bumpSerial_pending : (s.bumpSerial).pending = s.pending := rfl
@[simp] theorem State.bumpSerial_port (k : HostId) : (s.bumpSerial).port k = s.port k := rfl

/-! ### modEngine -/

@[simp] theorem State.modEngine_ports (f : Engine → Engine) : (s.modEngine f).ports = s.ports := rfl
@[simp] theorem State.modEngine_dir (f : Engine → Engine) : (s.modEngine f).dir = s.dir := rfl
@[simp] theorem State.modEngine_sched (f : Engine → Engine) : (s.modEngine f).sched = s.sched := rfl
@[simp] theorem State.modEngine_line (f : Engine → Engine) : (s.modEngine f).line = s.line := rfl
@[simp] theorem State.modEngine_sweep (f : Engine → Engine) : (s.modEngine f).sweep = s.sweep := rfl
@[simp] theorem State.modEngine_config (f : Engine → Engine) : (s.modEngine f).config = s.config := rfl
@[simp] theorem State.modEngine_time (f : Engine → Engine) : (s.modEngine f).time = s.time := rfl
@[simp] theorem State.modEngine_inReset (f : Engine → Engine) : (s.modEngine f).inReset = s.inReset := rfl
@[simp] theorem State.modEngine_freeIndex (f : Engine → Engine) : (s.modEngine f).freeIndex = s.freeIndex := rfl
@[simp] theorem State.modEngine_pending (f : Engine → Engine) : (s.modEngine f).pending = s.pending := rfl
@[simp] theorem State.modEngine_port (f : Engine → Engine) (k : HostId) : (s.modEngine f).port k = s.port k := rfl
@[simp] theorem State.modEngine_entry (f : Engine → Engine) (x : Addr) : (s.modEngine f).entry x = s.entry x := rfl

/-! ### decideRound -/

@[simp] theorem State.decideRound_ports (how : RoundEnd) : (s.decideRound how).ports = s.ports := rfl
@[simp] theorem State.decideRound_dir (how : RoundEnd) : (s.decideRound how).dir = s.dir := rfl
@[simp] theorem State.decideRound_sched (how : RoundEnd) : (s.decideRound how).sched = s.sched := rfl
@[simp] theorem State.decideRound_line (how : RoundEnd) : (s.decideRound how).line = s.line := rfl
@[simp] theorem State.decideRound_sweep (how : RoundEnd) : (s.decideRound how).sweep = s.sweep := rfl
@[simp] theorem State.decideRound_config (how : RoundEnd) : (s.decideRound how).config = s.config := rfl
@[simp] theorem State.decideRound_time (how : RoundEnd) : (s.decideRound how).time = s.time := rfl
@[simp] theorem State.decideRound_inReset (how : RoundEnd) : (s.decideRound how).inReset = s.inReset := rfl
@[simp] theorem State.decideRound_freeIndex (how : RoundEnd) : (s.decideRound how).freeIndex = s.freeIndex := rfl
@[simp] theorem State.decideRound_pending (how : RoundEnd) : (s.decideRound how).pending = s.pending := rfl
@[simp] theorem State.decideRound_port (how : RoundEnd) (k : HostId) : (s.decideRound how).port k = s.port k := rfl
@[simp] theorem State.decideRound_entry (how : RoundEnd) (x : Addr) : (s.decideRound how).entry x = s.entry x := rfl

/-! ### setWanted -/

@[simp] theorem State.setWanted_ports : (s.setWanted).ports = s.ports := rfl
@[simp] theorem State.setWanted_dir : (s.setWanted).dir = s.dir := rfl
@[simp] theorem State.setWanted_sched : (s.setWanted).sched = s.sched := rfl
@[simp] theorem State.setWanted_line : (s.setWanted).line = s.line := rfl
@[simp] theorem State.setWanted_sweep : (s.setWanted).sweep = s.sweep := rfl
@[simp] theorem State.setWanted_config : (s.setWanted).config = s.config := rfl
@[simp] theorem State.setWanted_time : (s.setWanted).time = s.time := rfl
@[simp] theorem State.setWanted_inReset : (s.setWanted).inReset = s.inReset := rfl
@[simp] theorem State.setWanted_freeIndex : (s.setWanted).freeIndex = s.freeIndex := rfl
@[simp] theorem State.setWanted_pending : (s.setWanted).pending = s.pending := rfl
@[simp] theorem State.setWanted_port (k : HostId) : (s.setWanted).port k = s.port k := rfl
@[simp] theorem State.setWanted_entry (x : Addr) : (s.setWanted).entry x = s.entry x := rfl

/-! ### startRound -/

@[simp] theorem State.startRound_ports : (s.startRound).ports = s.ports := rfl
@[simp] theorem State.startRound_dir : (s.startRound).dir = s.dir := rfl
@[simp] theorem State.startRound_sched : (s.startRound).sched = s.sched := rfl
@[simp] theorem State.startRound_line : (s.startRound).line = s.line := rfl
@[simp] theorem State.startRound_sweep : (s.startRound).sweep = s.sweep := rfl
@[simp] theorem State.startRound_config : (s.startRound).config = s.config := rfl
@[simp] theorem State.startRound_time : (s.startRound).time = s.time := rfl
@[simp] theorem State.startRound_inReset : (s.startRound).inReset = s.inReset := rfl
@[simp] theorem State.startRound_freeIndex : (s.startRound).freeIndex = s.freeIndex := rfl
@[simp] theorem State.startRound_pending : (s.startRound).pending = s.pending := rfl
@[simp] theorem State.startRound_port (k : HostId) : (s.startRound).port k = s.port k := rfl
@[simp] theorem State.startRound_entry (x : Addr) : (s.startRound).entry x = s.entry x := rfl

/-! ### endRound -/

@[simp] theorem State.endRound_ports (how : RoundEnd) : (s.endRound how).ports = s.ports := rfl
@[simp] theorem State.endRound_dir (how : RoundEnd) : (s.endRound how).dir = s.dir := rfl
@[simp] theorem State.endRound_sched (how : RoundEnd) : (s.endRound how).sched = s.sched := rfl
@[simp] theorem State.endRound_line (how : RoundEnd) : (s.endRound how).line = s.line := rfl
@[simp] theorem State.endRound_sweep (how : RoundEnd) : (s.endRound how).sweep = s.sweep := rfl
@[simp] theorem State.endRound_config (how : RoundEnd) : (s.endRound how).config = s.config := rfl
@[simp] theorem State.endRound_time (how : RoundEnd) : (s.endRound how).time = s.time := rfl
@[simp] theorem State.endRound_inReset (how : RoundEnd) : (s.endRound how).inReset = s.inReset := rfl
@[simp] theorem State.endRound_freeIndex (how : RoundEnd) : (s.endRound how).freeIndex = s.freeIndex := rfl
@[simp] theorem State.endRound_pending (how : RoundEnd) : (s.endRound how).pending = s.pending := rfl
@[simp] theorem State.endRound_port (how : RoundEnd) (k : HostId) : (s.endRound how).port k = s.port k := rfl
@[simp] theorem State.endRound_entry (how : RoundEnd) (x : Addr) : (s.endRound how).entry x = s.entry x := rfl

/-! ### enumerated -/

@[simp] theorem State.enumerated_ports : (s.enumerated).ports = s.ports := rfl
@[simp] theorem State.enumerated_dir : (s.enumerated).dir = s.dir := rfl
@[simp] theorem State.enumerated_sched : (s.enumerated).sched = s.sched := rfl
@[simp] theorem State.enumerated_line : (s.enumerated).line = s.line := rfl
@[simp] theorem State.enumerated_sweep : (s.enumerated).sweep = s.sweep := rfl
@[simp] theorem State.enumerated_config : (s.enumerated).config = s.config := rfl
@[simp] theorem State.enumerated_time : (s.enumerated).time = s.time := rfl
@[simp] theorem State.enumerated_inReset : (s.enumerated).inReset = s.inReset := rfl
@[simp] theorem State.enumerated_freeIndex : (s.enumerated).freeIndex = s.freeIndex := rfl
@[simp] theorem State.enumerated_pending : (s.enumerated).pending = s.pending := rfl
@[simp] theorem State.enumerated_port (k : HostId) : (s.enumerated).port k = s.port k := rfl
@[simp] theorem State.enumerated_entry (x : Addr) : (s.enumerated).entry x = s.entry x := rfl

/-! ### resetEngine -/

@[simp] theorem State.resetEngine_ports : (s.resetEngine).ports = s.ports := rfl
@[simp] theorem State.resetEngine_dir : (s.resetEngine).dir = s.dir := rfl
@[simp] theorem State.resetEngine_sched : (s.resetEngine).sched = s.sched := rfl
@[simp] theorem State.resetEngine_line : (s.resetEngine).line = s.line := rfl
@[simp] theorem State.resetEngine_sweep : (s.resetEngine).sweep = s.sweep := rfl
@[simp] theorem State.resetEngine_config : (s.resetEngine).config = s.config := rfl
@[simp] theorem State.resetEngine_time : (s.resetEngine).time = s.time := rfl
@[simp] theorem State.resetEngine_inReset : (s.resetEngine).inReset = s.inReset := rfl
@[simp] theorem State.resetEngine_freeIndex : (s.resetEngine).freeIndex = s.freeIndex := rfl
@[simp] theorem State.resetEngine_pending : (s.resetEngine).pending = s.pending := rfl
@[simp] theorem State.resetEngine_port (k : HostId) : (s.resetEngine).port k = s.port k := rfl
@[simp] theorem State.resetEngine_entry (x : Addr) : (s.resetEngine).entry x = s.entry x := rfl

/-! ### setSide -/

@[simp] theorem State.setSide_ports (d : Side) : (s.setSide d).ports = s.ports := rfl
@[simp] theorem State.setSide_dir (d : Side) : (s.setSide d).dir = s.dir := rfl
@[simp] theorem State.setSide_engine (d : Side) : (s.setSide d).engine = s.engine := rfl
@[simp] theorem State.setSide_line (d : Side) : (s.setSide d).line = s.line := rfl
@[simp] theorem State.setSide_sweep (d : Side) : (s.setSide d).sweep = s.sweep := rfl
@[simp] theorem State.setSide_config (d : Side) : (s.setSide d).config = s.config := rfl
@[simp] theorem State.setSide_time (d : Side) : (s.setSide d).time = s.time := rfl
@[simp] theorem State.setSide_inReset (d : Side) : (s.setSide d).inReset = s.inReset := rfl
@[simp] theorem State.setSide_freeIndex (d : Side) : (s.setSide d).freeIndex = s.freeIndex := rfl
@[simp] theorem State.setSide_pending (d : Side) : (s.setSide d).pending = s.pending := rfl
@[simp] theorem State.setSide_port (d : Side) (k : HostId) : (s.setSide d).port k = s.port k := rfl
@[simp] theorem State.setSide_entry (d : Side) (x : Addr) : (s.setSide d).entry x = s.entry x := rfl

/-! ### setRotation -/

@[simp] theorem State.setRotation_ports (h : HostId) : (s.setRotation h).ports = s.ports := rfl
@[simp] theorem State.setRotation_dir (h : HostId) : (s.setRotation h).dir = s.dir := rfl
@[simp] theorem State.setRotation_engine (h : HostId) : (s.setRotation h).engine = s.engine := rfl
@[simp] theorem State.setRotation_line (h : HostId) : (s.setRotation h).line = s.line := rfl
@[simp] theorem State.setRotation_sweep (h : HostId) : (s.setRotation h).sweep = s.sweep := rfl
@[simp] theorem State.setRotation_config (h : HostId) : (s.setRotation h).config = s.config := rfl
@[simp] theorem State.setRotation_time (h : HostId) : (s.setRotation h).time = s.time := rfl
@[simp] theorem State.setRotation_inReset (h : HostId) : (s.setRotation h).inReset = s.inReset := rfl
@[simp] theorem State.setRotation_freeIndex (h : HostId) : (s.setRotation h).freeIndex = s.freeIndex := rfl
@[simp] theorem State.setRotation_pending (h : HostId) : (s.setRotation h).pending = s.pending := rfl
@[simp] theorem State.setRotation_port (h : HostId) (k : HostId) : (s.setRotation h).port k = s.port k := rfl
@[simp] theorem State.setRotation_entry (h : HostId) (x : Addr) : (s.setRotation h).entry x = s.entry x := rfl

/-! ### setSlot -/

@[simp] theorem State.setSlot_dir (h : HostId) (sl : Option Slot) : (s.setSlot h sl).dir = s.dir := rfl
@[simp] theorem State.setSlot_engine (h : HostId) (sl : Option Slot) : (s.setSlot h sl).engine = s.engine := rfl
@[simp] theorem State.setSlot_sched (h : HostId) (sl : Option Slot) : (s.setSlot h sl).sched = s.sched := rfl
@[simp] theorem State.setSlot_line (h : HostId) (sl : Option Slot) : (s.setSlot h sl).line = s.line := rfl
@[simp] theorem State.setSlot_sweep (h : HostId) (sl : Option Slot) : (s.setSlot h sl).sweep = s.sweep := rfl
@[simp] theorem State.setSlot_config (h : HostId) (sl : Option Slot) : (s.setSlot h sl).config = s.config := rfl
@[simp] theorem State.setSlot_time (h : HostId) (sl : Option Slot) : (s.setSlot h sl).time = s.time := rfl
@[simp] theorem State.setSlot_inReset (h : HostId) (sl : Option Slot) : (s.setSlot h sl).inReset = s.inReset := rfl
@[simp] theorem State.setSlot_freeIndex (h : HostId) (sl : Option Slot) : (s.setSlot h sl).freeIndex = s.freeIndex := rfl
@[simp] theorem State.setSlot_pending (h : HostId) (sl : Option Slot) : (s.setSlot h sl).pending = s.pending := rfl
@[simp] theorem State.setSlot_entry (h : HostId) (sl : Option Slot) (x : Addr) : (s.setSlot h sl).entry x = s.entry x := rfl

/-! ### takeRate -/

@[simp] theorem State.takeRate_ports : (s.takeRate).ports = s.ports := rfl
@[simp] theorem State.takeRate_dir : (s.takeRate).dir = s.dir := rfl
@[simp] theorem State.takeRate_engine : (s.takeRate).engine = s.engine := rfl
@[simp] theorem State.takeRate_sched : (s.takeRate).sched = s.sched := rfl
@[simp] theorem State.takeRate_sweep : (s.takeRate).sweep = s.sweep := rfl
@[simp] theorem State.takeRate_config : (s.takeRate).config = s.config := rfl
@[simp] theorem State.takeRate_time : (s.takeRate).time = s.time := rfl
@[simp] theorem State.takeRate_inReset : (s.takeRate).inReset = s.inReset := rfl
@[simp] theorem State.takeRate_freeIndex : (s.takeRate).freeIndex = s.freeIndex := rfl
@[simp] theorem State.takeRate_pending : (s.takeRate).pending = s.pending := rfl
@[simp] theorem State.takeRate_port (k : HostId) : (s.takeRate).port k = s.port k := rfl
@[simp] theorem State.takeRate_entry (x : Addr) : (s.takeRate).entry x = s.entry x := rfl

/-! ### beginAttempt -/

@[simp] theorem State.beginAttempt_ports (t : Txn) : (s.beginAttempt t).ports = s.ports := rfl
@[simp] theorem State.beginAttempt_dir (t : Txn) : (s.beginAttempt t).dir = s.dir := rfl
@[simp] theorem State.beginAttempt_engine (t : Txn) : (s.beginAttempt t).engine = s.engine := rfl
@[simp] theorem State.beginAttempt_sched (t : Txn) : (s.beginAttempt t).sched = s.sched := rfl
@[simp] theorem State.beginAttempt_sweep (t : Txn) : (s.beginAttempt t).sweep = s.sweep := rfl
@[simp] theorem State.beginAttempt_config (t : Txn) : (s.beginAttempt t).config = s.config := rfl
@[simp] theorem State.beginAttempt_time (t : Txn) : (s.beginAttempt t).time = s.time := rfl
@[simp] theorem State.beginAttempt_inReset (t : Txn) : (s.beginAttempt t).inReset = s.inReset := rfl
@[simp] theorem State.beginAttempt_freeIndex (t : Txn) : (s.beginAttempt t).freeIndex = s.freeIndex := rfl
@[simp] theorem State.beginAttempt_pending (t : Txn) : (s.beginAttempt t).pending = s.pending := rfl
@[simp] theorem State.beginAttempt_port (t : Txn) (k : HostId) : (s.beginAttempt t).port k = s.port k := rfl
@[simp] theorem State.beginAttempt_entry (t : Txn) (x : Addr) : (s.beginAttempt t).entry x = s.entry x := rfl

/-! ### toGap -/

@[simp] theorem State.toGap_ports (g : Nat) (t : Option Txn) : (s.toGap g t).ports = s.ports := rfl
@[simp] theorem State.toGap_dir (g : Nat) (t : Option Txn) : (s.toGap g t).dir = s.dir := rfl
@[simp] theorem State.toGap_engine (g : Nat) (t : Option Txn) : (s.toGap g t).engine = s.engine := rfl
@[simp] theorem State.toGap_sched (g : Nat) (t : Option Txn) : (s.toGap g t).sched = s.sched := rfl
@[simp] theorem State.toGap_sweep (g : Nat) (t : Option Txn) : (s.toGap g t).sweep = s.sweep := rfl
@[simp] theorem State.toGap_config (g : Nat) (t : Option Txn) : (s.toGap g t).config = s.config := rfl
@[simp] theorem State.toGap_time (g : Nat) (t : Option Txn) : (s.toGap g t).time = s.time := rfl
@[simp] theorem State.toGap_inReset (g : Nat) (t : Option Txn) : (s.toGap g t).inReset = s.inReset := rfl
@[simp] theorem State.toGap_freeIndex (g : Nat) (t : Option Txn) : (s.toGap g t).freeIndex = s.freeIndex := rfl
@[simp] theorem State.toGap_pending (g : Nat) (t : Option Txn) : (s.toGap g t).pending = s.pending := rfl
@[simp] theorem State.toGap_port (g : Nat) (t : Option Txn) (k : HostId) : (s.toGap g t).port k = s.port k := rfl
@[simp] theorem State.toGap_entry (g : Nat) (t : Option Txn) (x : Addr) : (s.toGap g t).entry x = s.entry x := rfl

/-! ### toLineState -/

@[simp] theorem State.toLineState_ports (l : LineState) : (s.toLineState l).ports = s.ports := rfl
@[simp] theorem State.toLineState_dir (l : LineState) : (s.toLineState l).dir = s.dir := rfl
@[simp] theorem State.toLineState_engine (l : LineState) : (s.toLineState l).engine = s.engine := rfl
@[simp] theorem State.toLineState_sched (l : LineState) : (s.toLineState l).sched = s.sched := rfl
@[simp] theorem State.toLineState_sweep (l : LineState) : (s.toLineState l).sweep = s.sweep := rfl
@[simp] theorem State.toLineState_config (l : LineState) : (s.toLineState l).config = s.config := rfl
@[simp] theorem State.toLineState_time (l : LineState) : (s.toLineState l).time = s.time := rfl
@[simp] theorem State.toLineState_inReset (l : LineState) : (s.toLineState l).inReset = s.inReset := rfl
@[simp] theorem State.toLineState_freeIndex (l : LineState) : (s.toLineState l).freeIndex = s.freeIndex := rfl
@[simp] theorem State.toLineState_pending (l : LineState) : (s.toLineState l).pending = s.pending := rfl
@[simp] theorem State.toLineState_port (l : LineState) (k : HostId) : (s.toLineState l).port k = s.port k := rfl
@[simp] theorem State.toLineState_entry (l : LineState) (x : Addr) : (s.toLineState l).entry x = s.entry x := rfl

/-! ### addBits -/

@[simp] theorem State.addBits_ports (n : Nat) : (s.addBits n).ports = s.ports := rfl
@[simp] theorem State.addBits_dir (n : Nat) : (s.addBits n).dir = s.dir := rfl
@[simp] theorem State.addBits_engine (n : Nat) : (s.addBits n).engine = s.engine := rfl
@[simp] theorem State.addBits_sched (n : Nat) : (s.addBits n).sched = s.sched := rfl
@[simp] theorem State.addBits_sweep (n : Nat) : (s.addBits n).sweep = s.sweep := rfl
@[simp] theorem State.addBits_config (n : Nat) : (s.addBits n).config = s.config := rfl
@[simp] theorem State.addBits_time (n : Nat) : (s.addBits n).time = s.time := rfl
@[simp] theorem State.addBits_inReset (n : Nat) : (s.addBits n).inReset = s.inReset := rfl
@[simp] theorem State.addBits_freeIndex (n : Nat) : (s.addBits n).freeIndex = s.freeIndex := rfl
@[simp] theorem State.addBits_pending (n : Nat) : (s.addBits n).pending = s.pending := rfl
@[simp] theorem State.addBits_port (n : Nat) (k : HostId) : (s.addBits n).port k = s.port k := rfl
@[simp] theorem State.addBits_entry (n : Nat) (x : Addr) : (s.addBits n).entry x = s.entry x := rfl

/-! ### endGap -/

@[simp] theorem State.endGap_ports (g : Nat) : (s.endGap g).ports = s.ports := rfl
@[simp] theorem State.endGap_dir (g : Nat) : (s.endGap g).dir = s.dir := rfl
@[simp] theorem State.endGap_engine (g : Nat) : (s.endGap g).engine = s.engine := rfl
@[simp] theorem State.endGap_sched (g : Nat) : (s.endGap g).sched = s.sched := rfl
@[simp] theorem State.endGap_sweep (g : Nat) : (s.endGap g).sweep = s.sweep := rfl
@[simp] theorem State.endGap_config (g : Nat) : (s.endGap g).config = s.config := rfl
@[simp] theorem State.endGap_time (g : Nat) : (s.endGap g).time = s.time := rfl
@[simp] theorem State.endGap_inReset (g : Nat) : (s.endGap g).inReset = s.inReset := rfl
@[simp] theorem State.endGap_freeIndex (g : Nat) : (s.endGap g).freeIndex = s.freeIndex := rfl
@[simp] theorem State.endGap_pending (g : Nat) : (s.endGap g).pending = s.pending := rfl
@[simp] theorem State.endGap_port (g : Nat) (k : HostId) : (s.endGap g).port k = s.port k := rfl
@[simp] theorem State.endGap_entry (g : Nat) (x : Addr) : (s.endGap g).entry x = s.entry x := rfl

/-! ### setResetPhase -/

@[simp] theorem State.setResetPhase_ports (lr : LineReset) (p : ResetPhase) : (s.setResetPhase lr p).ports = s.ports := rfl
@[simp] theorem State.setResetPhase_dir (lr : LineReset) (p : ResetPhase) : (s.setResetPhase lr p).dir = s.dir := rfl
@[simp] theorem State.setResetPhase_engine (lr : LineReset) (p : ResetPhase) : (s.setResetPhase lr p).engine = s.engine := rfl
@[simp] theorem State.setResetPhase_sched (lr : LineReset) (p : ResetPhase) : (s.setResetPhase lr p).sched = s.sched := rfl
@[simp] theorem State.setResetPhase_sweep (lr : LineReset) (p : ResetPhase) : (s.setResetPhase lr p).sweep = s.sweep := rfl
@[simp] theorem State.setResetPhase_config (lr : LineReset) (p : ResetPhase) : (s.setResetPhase lr p).config = s.config := rfl
@[simp] theorem State.setResetPhase_time (lr : LineReset) (p : ResetPhase) : (s.setResetPhase lr p).time = s.time := rfl
@[simp] theorem State.setResetPhase_inReset (lr : LineReset) (p : ResetPhase) : (s.setResetPhase lr p).inReset = s.inReset := rfl
@[simp] theorem State.setResetPhase_freeIndex (lr : LineReset) (p : ResetPhase) : (s.setResetPhase lr p).freeIndex = s.freeIndex := rfl
@[simp] theorem State.setResetPhase_pending (lr : LineReset) (p : ResetPhase) : (s.setResetPhase lr p).pending = s.pending := rfl
@[simp] theorem State.setResetPhase_port (lr : LineReset) (p : ResetPhase) (k : HostId) : (s.setResetPhase lr p).port k = s.port k := rfl
@[simp] theorem State.setResetPhase_entry (lr : LineReset) (p : ResetPhase) (x : Addr) : (s.setResetPhase lr p).entry x = s.entry x := rfl

/-! ### joinLineReset -/

@[simp] theorem State.joinLineReset_ports (lr : LineReset) (h : HostId) (t : Tag) : (s.joinLineReset lr h t).ports = s.ports := rfl
@[simp] theorem State.joinLineReset_dir (lr : LineReset) (h : HostId) (t : Tag) : (s.joinLineReset lr h t).dir = s.dir := rfl
@[simp] theorem State.joinLineReset_engine (lr : LineReset) (h : HostId) (t : Tag) : (s.joinLineReset lr h t).engine = s.engine := rfl
@[simp] theorem State.joinLineReset_sched (lr : LineReset) (h : HostId) (t : Tag) : (s.joinLineReset lr h t).sched = s.sched := rfl
@[simp] theorem State.joinLineReset_sweep (lr : LineReset) (h : HostId) (t : Tag) : (s.joinLineReset lr h t).sweep = s.sweep := rfl
@[simp] theorem State.joinLineReset_config (lr : LineReset) (h : HostId) (t : Tag) : (s.joinLineReset lr h t).config = s.config := rfl
@[simp] theorem State.joinLineReset_time (lr : LineReset) (h : HostId) (t : Tag) : (s.joinLineReset lr h t).time = s.time := rfl
@[simp] theorem State.joinLineReset_inReset (lr : LineReset) (h : HostId) (t : Tag) : (s.joinLineReset lr h t).inReset = s.inReset := rfl
@[simp] theorem State.joinLineReset_freeIndex (lr : LineReset) (h : HostId) (t : Tag) : (s.joinLineReset lr h t).freeIndex = s.freeIndex := rfl
@[simp] theorem State.joinLineReset_pending (lr : LineReset) (h : HostId) (t : Tag) : (s.joinLineReset lr h t).pending = s.pending := rfl
@[simp] theorem State.joinLineReset_port (lr : LineReset) (h : HostId) (t : Tag) (k : HostId) : (s.joinLineReset lr h t).port k = s.port k := rfl
@[simp] theorem State.joinLineReset_entry (lr : LineReset) (h : HostId) (t : Tag) (x : Addr) : (s.joinLineReset lr h t).entry x = s.entry x := rfl

/-! ### dropLineReplies -/

@[simp] theorem State.dropLineReplies_ports (h : HostId) : (s.dropLineReplies h).ports = s.ports := rfl
@[simp] theorem State.dropLineReplies_dir (h : HostId) : (s.dropLineReplies h).dir = s.dir := rfl
@[simp] theorem State.dropLineReplies_engine (h : HostId) : (s.dropLineReplies h).engine = s.engine := rfl
@[simp] theorem State.dropLineReplies_sched (h : HostId) : (s.dropLineReplies h).sched = s.sched := rfl
@[simp] theorem State.dropLineReplies_sweep (h : HostId) : (s.dropLineReplies h).sweep = s.sweep := rfl
@[simp] theorem State.dropLineReplies_config (h : HostId) : (s.dropLineReplies h).config = s.config := rfl
@[simp] theorem State.dropLineReplies_time (h : HostId) : (s.dropLineReplies h).time = s.time := rfl
@[simp] theorem State.dropLineReplies_inReset (h : HostId) : (s.dropLineReplies h).inReset = s.inReset := rfl
@[simp] theorem State.dropLineReplies_freeIndex (h : HostId) : (s.dropLineReplies h).freeIndex = s.freeIndex := rfl
@[simp] theorem State.dropLineReplies_pending (h : HostId) : (s.dropLineReplies h).pending = s.pending := rfl
@[simp] theorem State.dropLineReplies_port (h : HostId) (k : HostId) : (s.dropLineReplies h).port k = s.port k := rfl
@[simp] theorem State.dropLineReplies_entry (h : HostId) (x : Addr) : (s.dropLineReplies h).entry x = s.entry x := rfl

/-! ### resetSweep -/

@[simp] theorem State.resetSweep_ports : (s.resetSweep).ports = s.ports := rfl
@[simp] theorem State.resetSweep_dir : (s.resetSweep).dir = s.dir := rfl
@[simp] theorem State.resetSweep_engine : (s.resetSweep).engine = s.engine := rfl
@[simp] theorem State.resetSweep_sched : (s.resetSweep).sched = s.sched := rfl
@[simp] theorem State.resetSweep_line : (s.resetSweep).line = s.line := rfl
@[simp] theorem State.resetSweep_config : (s.resetSweep).config = s.config := rfl
@[simp] theorem State.resetSweep_time : (s.resetSweep).time = s.time := rfl
@[simp] theorem State.resetSweep_inReset : (s.resetSweep).inReset = s.inReset := rfl
@[simp] theorem State.resetSweep_freeIndex : (s.resetSweep).freeIndex = s.freeIndex := rfl
@[simp] theorem State.resetSweep_pending : (s.resetSweep).pending = s.pending := rfl
@[simp] theorem State.resetSweep_port (k : HostId) : (s.resetSweep).port k = s.port k := rfl
@[simp] theorem State.resetSweep_entry (x : Addr) : (s.resetSweep).entry x = s.entry x := rfl

/-! ### retimeSweep -/

@[simp] theorem State.retimeSweep_ports (v : Nat) : (s.retimeSweep v).ports = s.ports := rfl
@[simp] theorem State.retimeSweep_dir (v : Nat) : (s.retimeSweep v).dir = s.dir := rfl
@[simp] theorem State.retimeSweep_engine (v : Nat) : (s.retimeSweep v).engine = s.engine := rfl
@[simp] theorem State.retimeSweep_sched (v : Nat) : (s.retimeSweep v).sched = s.sched := rfl
@[simp] theorem State.retimeSweep_line (v : Nat) : (s.retimeSweep v).line = s.line := rfl
@[simp] theorem State.retimeSweep_config (v : Nat) : (s.retimeSweep v).config = s.config := rfl
@[simp] theorem State.retimeSweep_time (v : Nat) : (s.retimeSweep v).time = s.time := rfl
@[simp] theorem State.retimeSweep_inReset (v : Nat) : (s.retimeSweep v).inReset = s.inReset := rfl
@[simp] theorem State.retimeSweep_freeIndex (v : Nat) : (s.retimeSweep v).freeIndex = s.freeIndex := rfl
@[simp] theorem State.retimeSweep_pending (v : Nat) : (s.retimeSweep v).pending = s.pending := rfl
@[simp] theorem State.retimeSweep_port (v : Nat) (k : HostId) : (s.retimeSweep v).port k = s.port k := rfl
@[simp] theorem State.retimeSweep_entry (v : Nat) (x : Addr) : (s.retimeSweep v).entry x = s.entry x := rfl

/-! ### modConfig -/

@[simp] theorem State.modConfig_ports (f : Params → Params) : (s.modConfig f).ports = s.ports := rfl
@[simp] theorem State.modConfig_dir (f : Params → Params) : (s.modConfig f).dir = s.dir := rfl
@[simp] theorem State.modConfig_engine (f : Params → Params) : (s.modConfig f).engine = s.engine := rfl
@[simp] theorem State.modConfig_sched (f : Params → Params) : (s.modConfig f).sched = s.sched := rfl
@[simp] theorem State.modConfig_line (f : Params → Params) : (s.modConfig f).line = s.line := rfl
@[simp] theorem State.modConfig_sweep (f : Params → Params) : (s.modConfig f).sweep = s.sweep := rfl
@[simp] theorem State.modConfig_time (f : Params → Params) : (s.modConfig f).time = s.time := rfl
@[simp] theorem State.modConfig_inReset (f : Params → Params) : (s.modConfig f).inReset = s.inReset := rfl
@[simp] theorem State.modConfig_freeIndex (f : Params → Params) : (s.modConfig f).freeIndex = s.freeIndex := rfl
@[simp] theorem State.modConfig_pending (f : Params → Params) : (s.modConfig f).pending = s.pending := rfl
@[simp] theorem State.modConfig_port (f : Params → Params) (k : HostId) : (s.modConfig f).port k = s.port k := rfl
@[simp] theorem State.modConfig_entry (f : Params → Params) (x : Addr) : (s.modConfig f).entry x = s.entry x := rfl

/-! ### setStart -/

@[simp] theorem State.setStart_ports (b : StartBit) : (s.setStart b).ports = s.ports := rfl
@[simp] theorem State.setStart_dir (b : StartBit) : (s.setStart b).dir = s.dir := rfl
@[simp] theorem State.setStart_engine (b : StartBit) : (s.setStart b).engine = s.engine := rfl
@[simp] theorem State.setStart_sched (b : StartBit) : (s.setStart b).sched = s.sched := rfl
@[simp] theorem State.setStart_sweep (b : StartBit) : (s.setStart b).sweep = s.sweep := rfl
@[simp] theorem State.setStart_config (b : StartBit) : (s.setStart b).config = s.config := rfl
@[simp] theorem State.setStart_time (b : StartBit) : (s.setStart b).time = s.time := rfl
@[simp] theorem State.setStart_inReset (b : StartBit) : (s.setStart b).inReset = s.inReset := rfl
@[simp] theorem State.setStart_freeIndex (b : StartBit) : (s.setStart b).freeIndex = s.freeIndex := rfl
@[simp] theorem State.setStart_pending (b : StartBit) : (s.setStart b).pending = s.pending := rfl
@[simp] theorem State.setStart_port (b : StartBit) (k : HostId) : (s.setStart b).port k = s.port k := rfl
@[simp] theorem State.setStart_entry (b : StartBit) (x : Addr) : (s.setStart b).entry x = s.entry x := rfl

/-! ### elapseTo -/

@[simp] theorem State.elapseTo_ports (n : Nat) : (s.elapseTo n).ports = s.ports := rfl
@[simp] theorem State.elapseTo_dir (n : Nat) : (s.elapseTo n).dir = s.dir := rfl
@[simp] theorem State.elapseTo_engine (n : Nat) : (s.elapseTo n).engine = s.engine := rfl
@[simp] theorem State.elapseTo_sched (n : Nat) : (s.elapseTo n).sched = s.sched := rfl
@[simp] theorem State.elapseTo_line (n : Nat) : (s.elapseTo n).line = s.line := rfl
@[simp] theorem State.elapseTo_sweep (n : Nat) : (s.elapseTo n).sweep = s.sweep := rfl
@[simp] theorem State.elapseTo_config (n : Nat) : (s.elapseTo n).config = s.config := rfl
@[simp] theorem State.elapseTo_inReset (n : Nat) : (s.elapseTo n).inReset = s.inReset := rfl
@[simp] theorem State.elapseTo_freeIndex (n : Nat) : (s.elapseTo n).freeIndex = s.freeIndex := rfl
@[simp] theorem State.elapseTo_pending (n : Nat) : (s.elapseTo n).pending = s.pending := rfl
@[simp] theorem State.elapseTo_port (n : Nat) (k : HostId) : (s.elapseTo n).port k = s.port k := rfl
@[simp] theorem State.elapseTo_entry (n : Nat) (x : Addr) : (s.elapseTo n).entry x = s.entry x := rfl

/-! ### giveBack -/

@[simp] theorem State.giveBack_dir (h : HostId) (bs : List Byte) : (s.giveBack h bs).dir = s.dir := rfl
@[simp] theorem State.giveBack_engine (h : HostId) (bs : List Byte) : (s.giveBack h bs).engine = s.engine := rfl
@[simp] theorem State.giveBack_sched (h : HostId) (bs : List Byte) : (s.giveBack h bs).sched = s.sched := rfl
@[simp] theorem State.giveBack_line (h : HostId) (bs : List Byte) : (s.giveBack h bs).line = s.line := rfl
@[simp] theorem State.giveBack_sweep (h : HostId) (bs : List Byte) : (s.giveBack h bs).sweep = s.sweep := rfl
@[simp] theorem State.giveBack_config (h : HostId) (bs : List Byte) : (s.giveBack h bs).config = s.config := rfl
@[simp] theorem State.giveBack_time (h : HostId) (bs : List Byte) : (s.giveBack h bs).time = s.time := rfl
@[simp] theorem State.giveBack_inReset (h : HostId) (bs : List Byte) : (s.giveBack h bs).inReset = s.inReset := rfl
@[simp] theorem State.giveBack_freeIndex (h : HostId) (bs : List Byte) : (s.giveBack h bs).freeIndex = s.freeIndex := rfl
@[simp] theorem State.giveBack_pending (h : HostId) (bs : List Byte) : (s.giveBack h bs).pending = s.pending := rfl
@[simp] theorem State.giveBack_entry (h : HostId) (bs : List Byte) (x : Addr) : (s.giveBack h bs).entry x = s.entry x := rfl

/-! ### setHeld -/

@[simp] theorem State.setHeld_dir (h : HostId) (b : Bool) : (s.setHeld h b).dir = s.dir := rfl
@[simp] theorem State.setHeld_engine (h : HostId) (b : Bool) : (s.setHeld h b).engine = s.engine := rfl
@[simp] theorem State.setHeld_sched (h : HostId) (b : Bool) : (s.setHeld h b).sched = s.sched := rfl
@[simp] theorem State.setHeld_line (h : HostId) (b : Bool) : (s.setHeld h b).line = s.line := rfl
@[simp] theorem State.setHeld_sweep (h : HostId) (b : Bool) : (s.setHeld h b).sweep = s.sweep := rfl
@[simp] theorem State.setHeld_config (h : HostId) (b : Bool) : (s.setHeld h b).config = s.config := rfl
@[simp] theorem State.setHeld_time (h : HostId) (b : Bool) : (s.setHeld h b).time = s.time := rfl
@[simp] theorem State.setHeld_inReset (h : HostId) (b : Bool) : (s.setHeld h b).inReset = s.inReset := rfl
@[simp] theorem State.setHeld_freeIndex (h : HostId) (b : Bool) : (s.setHeld h b).freeIndex = s.freeIndex := rfl
@[simp] theorem State.setHeld_pending (h : HostId) (b : Bool) : (s.setHeld h b).pending = s.pending := rfl
@[simp] theorem State.setHeld_entry (h : HostId) (b : Bool) (x : Addr) : (s.setHeld h b).entry x = s.entry x := rfl

/-! ### setClaim -/

@[simp] theorem State.setClaim_ports (a : Addr) (c : Claim) : (s.setClaim a c).ports = s.ports := rfl
@[simp] theorem State.setClaim_engine (a : Addr) (c : Claim) : (s.setClaim a c).engine = s.engine := rfl
@[simp] theorem State.setClaim_sched (a : Addr) (c : Claim) : (s.setClaim a c).sched = s.sched := rfl
@[simp] theorem State.setClaim_line (a : Addr) (c : Claim) : (s.setClaim a c).line = s.line := rfl
@[simp] theorem State.setClaim_sweep (a : Addr) (c : Claim) : (s.setClaim a c).sweep = s.sweep := rfl
@[simp] theorem State.setClaim_config (a : Addr) (c : Claim) : (s.setClaim a c).config = s.config := rfl
@[simp] theorem State.setClaim_time (a : Addr) (c : Claim) : (s.setClaim a c).time = s.time := rfl
@[simp] theorem State.setClaim_inReset (a : Addr) (c : Claim) : (s.setClaim a c).inReset = s.inReset := rfl
@[simp] theorem State.setClaim_freeIndex (a : Addr) (c : Claim) : (s.setClaim a c).freeIndex = s.freeIndex := rfl
@[simp] theorem State.setClaim_pending (a : Addr) (c : Claim) : (s.setClaim a c).pending = s.pending := rfl
@[simp] theorem State.setClaim_port (a : Addr) (c : Claim) (k : HostId) : (s.setClaim a c).port k = s.port k := rfl

/-! ### takeFree -/

@[simp] theorem State.takeFree_ports (a : Addr) (u : Uid) : (s.takeFree a u).ports = s.ports := rfl
@[simp] theorem State.takeFree_engine (a : Addr) (u : Uid) : (s.takeFree a u).engine = s.engine := rfl
@[simp] theorem State.takeFree_sched (a : Addr) (u : Uid) : (s.takeFree a u).sched = s.sched := rfl
@[simp] theorem State.takeFree_line (a : Addr) (u : Uid) : (s.takeFree a u).line = s.line := rfl
@[simp] theorem State.takeFree_sweep (a : Addr) (u : Uid) : (s.takeFree a u).sweep = s.sweep := rfl
@[simp] theorem State.takeFree_config (a : Addr) (u : Uid) : (s.takeFree a u).config = s.config := rfl
@[simp] theorem State.takeFree_time (a : Addr) (u : Uid) : (s.takeFree a u).time = s.time := rfl
@[simp] theorem State.takeFree_inReset (a : Addr) (u : Uid) : (s.takeFree a u).inReset = s.inReset := rfl
@[simp] theorem State.takeFree_freeIndex (a : Addr) (u : Uid) : (s.takeFree a u).freeIndex = s.freeIndex := rfl
@[simp] theorem State.takeFree_pending (a : Addr) (u : Uid) : (s.takeFree a u).pending = s.pending := rfl
@[simp] theorem State.takeFree_port (a : Addr) (u : Uid) (k : HostId) : (s.takeFree a u).port k = s.port k := rfl

/-! ### takeLost -/

@[simp] theorem State.takeLost_ports (a : Addr) : (s.takeLost a).ports = s.ports := rfl
@[simp] theorem State.takeLost_engine (a : Addr) : (s.takeLost a).engine = s.engine := rfl
@[simp] theorem State.takeLost_sched (a : Addr) : (s.takeLost a).sched = s.sched := rfl
@[simp] theorem State.takeLost_line (a : Addr) : (s.takeLost a).line = s.line := rfl
@[simp] theorem State.takeLost_sweep (a : Addr) : (s.takeLost a).sweep = s.sweep := rfl
@[simp] theorem State.takeLost_config (a : Addr) : (s.takeLost a).config = s.config := rfl
@[simp] theorem State.takeLost_time (a : Addr) : (s.takeLost a).time = s.time := rfl
@[simp] theorem State.takeLost_inReset (a : Addr) : (s.takeLost a).inReset = s.inReset := rfl
@[simp] theorem State.takeLost_freeIndex (a : Addr) : (s.takeLost a).freeIndex = s.freeIndex := rfl
@[simp] theorem State.takeLost_pending (a : Addr) : (s.takeLost a).pending = s.pending := rfl
@[simp] theorem State.takeLost_port (a : Addr) (k : HostId) : (s.takeLost a).port k = s.port k := rfl

/-! ### offerAll -/

@[simp] theorem State.offerAll_dir (n : Notice) : (s.offerAll n).dir = s.dir := rfl
@[simp] theorem State.offerAll_engine (n : Notice) : (s.offerAll n).engine = s.engine := rfl
@[simp] theorem State.offerAll_sched (n : Notice) : (s.offerAll n).sched = s.sched := rfl
@[simp] theorem State.offerAll_line (n : Notice) : (s.offerAll n).line = s.line := rfl
@[simp] theorem State.offerAll_sweep (n : Notice) : (s.offerAll n).sweep = s.sweep := rfl
@[simp] theorem State.offerAll_config (n : Notice) : (s.offerAll n).config = s.config := rfl
@[simp] theorem State.offerAll_time (n : Notice) : (s.offerAll n).time = s.time := rfl
@[simp] theorem State.offerAll_inReset (n : Notice) : (s.offerAll n).inReset = s.inReset := rfl
@[simp] theorem State.offerAll_freeIndex (n : Notice) : (s.offerAll n).freeIndex = s.freeIndex := rfl
@[simp] theorem State.offerAll_pending (n : Notice) : (s.offerAll n).pending = s.pending := rfl
@[simp] theorem State.offerAll_entry (n : Notice) (x : Addr) : (s.offerAll n).entry x = s.entry x := rfl

/-! ### The companions of the directory -/

@[simp] theorem State.setEntry_recalls (a : Addr) (e : Entry) : (s.setEntry a e).dir.recalls = s.dir.recalls := rfl
@[simp] theorem State.setEntry_serial (a : Addr) (e : Entry) : (s.setEntry a e).dir.serial = s.dir.serial := rfl
@[simp] theorem State.setEntry_parked (a : Addr) (e : Entry) : (s.setEntry a e).dir.parked = s.dir.parked := rfl
@[simp] theorem State.mapEntries_recalls (f : Entry → Entry) : (s.mapEntries f).dir.recalls = s.dir.recalls := rfl
@[simp] theorem State.mapEntries_serial (f : Entry → Entry) : (s.mapEntries f).dir.serial = s.dir.serial := rfl
@[simp] theorem State.mapEntries_parked (f : Entry → Entry) : (s.mapEntries f).dir.parked = s.dir.parked := rfl
@[simp] theorem State.setRecalls_recalls (l : List Recall) : (s.setRecalls l).dir.recalls = l := rfl
@[simp] theorem State.setRecalls_serial (l : List Recall) : (s.setRecalls l).dir.serial = s.dir.serial := rfl
@[simp] theorem State.setRecalls_parked (l : List Recall) : (s.setRecalls l).dir.parked = s.dir.parked := rfl
@[simp] theorem State.setRecalls_entry (l : List Recall) (a : Addr) : (s.setRecalls l).entry a = s.entry a := rfl
@[simp] theorem State.setParked_recalls (n : Nat) : (s.setParked n).dir.recalls = s.dir.recalls := rfl
@[simp] theorem State.setParked_serial (n : Nat) : (s.setParked n).dir.serial = s.dir.serial := rfl
@[simp] theorem State.setParked_parked (n : Nat) : (s.setParked n).dir.parked = n := rfl
@[simp] theorem State.setParked_entry (n : Nat) (a : Addr) : (s.setParked n).entry a = s.entry a := rfl
@[simp] theorem State.bumpSerial_recalls : s.bumpSerial.dir.recalls = s.dir.recalls := rfl
@[simp] theorem State.bumpSerial_serial : s.bumpSerial.dir.serial = s.dir.serial + 1 := rfl
@[simp] theorem State.bumpSerial_parked : s.bumpSerial.dir.parked = s.dir.parked := rfl
@[simp] theorem State.bumpSerial_entry (a : Addr) : s.bumpSerial.entry a = s.entry a := rfl

/-! ### Reading what was written -/

@[simp] theorem State.port_setPort_same (h : HostId) (p : Port) : (s.setPort h p).port h = p := by
  simp [State.port, State.setPort]

theorem State.port_setPort_ne {g h : HostId} (hne : g ≠ h) (p : Port) : (s.setPort h p).port g = s.port g := by
  simp only [State.port, State.setPort, Fin.getElem_fin]
  exact Vector.getElem_set_ne h.isLt g.isLt (fun e => hne (Fin.ext e.symm))

/-- The port read after a write: the written one at its host, every other as it was. -/
theorem State.port_setPort (g h : HostId) (p : Port) : (s.setPort h p).port g = if g = h then p else s.port g := by
  split
  · next e => subst e; exact s.port_setPort_same g p
  · next e => exact s.port_setPort_ne e p

@[simp] theorem State.entry_setEntry_same (a : Addr) (e : Entry) : (s.setEntry a e).entry a = e := by
  simp [State.entry, State.setEntry]

theorem State.entry_setEntry_ne {a b : Addr} (hne : a ≠ b) (e : Entry) : (s.setEntry b e).entry a = s.entry a := by
  simp only [State.entry, State.setEntry, Fin.getElem_fin]
  exact Vector.getElem_set_ne b.isLt a.isLt (fun h => hne (Fin.ext h.symm))

/-- The entry read after a write: the written one at its address, every other as it was. -/
theorem State.entry_setEntry (a b : Addr) (e : Entry) : (s.setEntry b e).entry a = if a = b then e else s.entry a := by
  split
  · next h => subst h; exact s.entry_setEntry_same a e
  · next h => exact s.entry_setEntry_ne h e

@[simp] theorem State.entry_mapEntries (f : Entry → Entry) (a : Addr) : (s.mapEntries f).entry a = f (s.entry a) := by
  simp [State.entry, State.mapEntries]

@[simp] theorem State.port_offerAll (n : Notice) (h : HostId) :
    (s.offerAll n).port h = if (s.port h).wants n.body then (s.port h).offer n else s.port h := by
  simp only [State.port, State.offerAll, Fin.getElem_fin, Vector.getElem_map]
  rfl

/-- Two states are equal when their ports, entries and the rest are. -/
theorem State.ext_reads {s t : State} (hp : ∀ h, s.port h = t.port h) (he : ∀ a, s.entry a = t.entry a)
    (hr : s.dir.recalls = t.dir.recalls) (hs : s.dir.serial = t.dir.serial) (hk : s.dir.parked = t.dir.parked)
    (hrest : { s with ports := t.ports, dir := t.dir } = t) : s = t := by
  have h1 : s.ports = t.ports := by
    ext i hi : 1
    exact hp ⟨i, hi⟩
  have h2 : s.dir.entries = t.dir.entries := by
    ext i hi : 1
    exact he ⟨i, hi⟩
  have h3 : s.dir = t.dir := by
    cases hd : s.dir; cases hd' : t.dir
    simp_all
  cases s; cases t
  simp_all

end Sys2Proof.Machine
end

