-- ==== Sys2Proof/Laws/Ops.lean ====
section
/-! SUPPORT. What each shared operation can do, once for all: placing replies and offering notices, the take of a request,
an exchange, an expiry, a line event, a grant. -/

namespace Sys2Proof.Machine

open Sys2Proof

/-! ### A reply placed, a notice offered (R157, R160, R165) -/


@[simp] theorem Port.placeReply_queue (p : Port) (r : Reply) : (p.placeReply r).queue = p.queue := by
  unfold Port.placeReply; split <;> rfl

@[simp] theorem Port.placeReply_slot (p : Port) (r : Reply) : (p.placeReply r).slot = p.slot := by
  unfold Port.placeReply; split <;> rfl

@[simp] theorem Port.placeReply_overrun (p : Port) (r : Reply) : (p.placeReply r).overrun = p.overrun := by
  unfold Port.placeReply; split <;> rfl

@[simp] theorem Port.placeReply_mask (p : Port) (r : Reply) : (p.placeReply r).mask = p.mask := by
  unfold Port.placeReply; split <;> rfl

@[simp] theorem Port.placeReply_manage (p : Port) (r : Reply) : (p.placeReply r).manage = p.manage := by
  unfold Port.placeReply; split <;> rfl

@[simp] theorem Port.placeReply_held (p : Port) (r : Reply) : (p.placeReply r).held = p.held := by
  unfold Port.placeReply; split <;> rfl

@[simp] theorem Port.placeReply_hdo (p : Port) (r : Reply) : (p.placeReply r).hdo = p.hdo := by
  unfold Port.placeReply; split <;> rfl

@[simp] theorem Port.offer_queue (p : Port) (n : Notice) : (p.offer n).queue = p.queue := by
  unfold Port.offer; split
  · rfl
  · split <;> rfl

@[simp] theorem Port.offer_owed (p : Port) (n : Notice) : (p.offer n).owed = p.owed := by
  unfold Port.offer; split
  · rfl
  · split <;> rfl

@[simp] theorem Port.offer_slot (p : Port) (n : Notice) : (p.offer n).slot = p.slot := by
  unfold Port.offer; split
  · rfl
  · split <;> rfl

@[simp] theorem Port.offer_mask (p : Port) (n : Notice) : (p.offer n).mask = p.mask := by
  unfold Port.offer; split
  · rfl
  · split <;> rfl

@[simp] theorem Port.offer_manage (p : Port) (n : Notice) : (p.offer n).manage = p.manage := by
  unfold Port.offer; split
  · rfl
  · split <;> rfl

@[simp] theorem Port.offer_held (p : Port) (n : Notice) : (p.offer n).held = p.held := by
  unfold Port.offer; split
  · rfl
  · split <;> rfl

@[simp] theorem Port.offer_hdo (p : Port) (n : Notice) : (p.offer n).hdo = p.hdo := by
  unfold Port.offer; split
  · rfl
  · split <;> rfl

/-- Placing a reply: an owed tag's reply joins at the newest end and the tag leaves the owed set; any other changes nothing. -/
theorem Port.placeReply_cases (p : Port) (r : Reply) :
    (r.tag ∈ p.owed ∧ p.placeReply r = { p with outbound := p.outbound ++ [.reply r], owed := p.owed.erase r.tag }) ∨
    (r.tag ∉ p.owed ∧ p.placeReply r = p) := by
  unfold Port.placeReply
  split
  · exact .inl ⟨‹_›, rfl⟩
  · exact .inr ⟨‹_›, rfl⟩

/-- Offering a notice: a held port takes none; a full one drops it and sets its flag; any other queues it. -/
theorem Port.offer_cases (p : Port) (n : Notice) :
    (p.held = true ∧ p.offer n = p) ∨
    (p.held = false ∧ p.freeSpace = 0 ∧ p.offer n = { p with overrun := true }) ∨
    (p.held = false ∧ 0 < p.freeSpace ∧ p.offer n = { p with outbound := p.outbound ++ [.notice n] }) := by
  unfold Port.offer
  split
  · exact .inl ⟨‹_›, rfl⟩
  · split
    · exact .inr (.inl ⟨by simpa using ‹¬ p.held = true›, ‹_›, rfl⟩)
    · exact .inr (.inr ⟨by simpa using ‹¬ p.held = true›, by omega, rfl⟩)

/-- A reply placed leaves the sum of items and owed tags as it was (R157). -/
theorem Port.placeReply_sum (p : Port) (r : Reply) :
    (p.placeReply r).outbound.length + (p.placeReply r).owed.length = p.outbound.length + p.owed.length := by
  rcases p.placeReply_cases r with ⟨hm, he⟩ | ⟨-, he⟩
  · have := List.length_pos_of_mem hm
    simp only [he, List.length_append, List.length_singleton, List.length_erase_of_mem hm]
    omega
  · rw [he]


/-! ### Posts (R149) -/

@[simp] theorem State.post_dir (s : State) (p : Post) : (s.post p).dir = s.dir := by
  cases p <;> rfl

@[simp] theorem State.post_engine (s : State) (p : Post) : (s.post p).engine = s.engine := by
  cases p <;> rfl

@[simp] theorem State.post_sched (s : State) (p : Post) : (s.post p).sched = s.sched := by
  cases p <;> rfl

@[simp] theorem State.post_line (s : State) (p : Post) : (s.post p).line = s.line := by
  cases p <;> rfl

@[simp] theorem State.post_sweep (s : State) (p : Post) : (s.post p).sweep = s.sweep := by
  cases p <;> rfl

@[simp] theorem State.post_config (s : State) (p : Post) : (s.post p).config = s.config := by
  cases p <;> rfl

@[simp] theorem State.post_time (s : State) (p : Post) : (s.post p).time = s.time := by
  cases p <;> rfl

@[simp] theorem State.post_inReset (s : State) (p : Post) : (s.post p).inReset = s.inReset := by
  cases p <;> rfl

@[simp] theorem State.post_freeIndex (s : State) (p : Post) : (s.post p).freeIndex = s.freeIndex := by
  cases p <;> rfl

@[simp] theorem State.post_pending (s : State) (p : Post) : (s.post p).pending = s.pending := by
  cases p <;> rfl

@[simp] theorem State.post_entry (s : State) (p : Post) (a : Addr) : (s.post p).entry a = s.entry a := by
  cases p <;> rfl

@[simp] theorem State.post_port_queue (s : State) (p : Post) (g : HostId) : ((s.post p).port g).queue = (s.port g).queue := by
  cases p with
  | reply h t k o q b =>
    simp only [State.post, State.port_setPort]
    split <;> simp [*]
  | notice b =>
    simp only [State.post, State.port_offerAll]
    split <;> simp
  | noticeTo h b =>
    simp only [State.post, State.port_setPort]
    split <;> simp [*]

@[simp] theorem State.post_port_slot (s : State) (p : Post) (g : HostId) : ((s.post p).port g).slot = (s.port g).slot := by
  cases p with
  | reply h t k o q b =>
    simp only [State.post, State.port_setPort]
    split <;> simp [*]
  | notice b =>
    simp only [State.post, State.port_offerAll]
    split <;> simp
  | noticeTo h b =>
    simp only [State.post, State.port_setPort]
    split <;> simp [*]

@[simp] theorem State.post_port_mask (s : State) (p : Post) (g : HostId) : ((s.post p).port g).mask = (s.port g).mask := by
  cases p with
  | reply h t k o q b =>
    simp only [State.post, State.port_setPort]
    split <;> simp [*]
  | notice b =>
    simp only [State.post, State.port_offerAll]
    split <;> simp
  | noticeTo h b =>
    simp only [State.post, State.port_setPort]
    split <;> simp [*]

@[simp] theorem State.post_port_manage (s : State) (p : Post) (g : HostId) : ((s.post p).port g).manage = (s.port g).manage := by
  cases p with
  | reply h t k o q b =>
    simp only [State.post, State.port_setPort]
    split <;> simp [*]
  | notice b =>
    simp only [State.post, State.port_offerAll]
    split <;> simp
  | noticeTo h b =>
    simp only [State.post, State.port_setPort]
    split <;> simp [*]

@[simp] theorem State.post_port_held (s : State) (p : Post) (g : HostId) : ((s.post p).port g).held = (s.port g).held := by
  cases p with
  | reply h t k o q b =>
    simp only [State.post, State.port_setPort]
    split <;> simp [*]
  | notice b =>
    simp only [State.post, State.port_offerAll]
    split <;> simp
  | noticeTo h b =>
    simp only [State.post, State.port_setPort]
    split <;> simp [*]

@[simp] theorem State.post_port_hdo (s : State) (p : Post) (g : HostId) : ((s.post p).port g).hdo = (s.port g).hdo := by
  cases p with
  | reply h t k o q b =>
    simp only [State.post, State.port_setPort]
    split <;> simp [*]
  | notice b =>
    simp only [State.post, State.port_offerAll]
    split <;> simp
  | noticeTo h b =>
    simp only [State.post, State.port_setPort]
    split <;> simp [*]

@[simp] theorem State.postAll_nil (s : State) : s.postAll [] = s := rfl

@[simp] theorem State.postAll_cons (s : State) (p : Post) (ps : List Post) : s.postAll (p :: ps) = (s.post p).postAll ps := rfl

theorem State.postAll_append (s : State) (ps qs : List Post) : s.postAll (ps ++ qs) = (s.postAll ps).postAll qs := by
  simp [State.postAll, List.foldl_append]

@[simp] theorem State.postAll_dir (s : State) (ps : List Post) : (s.postAll ps).dir = s.dir := by
  induction ps generalizing s with
  | nil => rfl
  | cons p ps ih => simp [ih]

@[simp] theorem State.postAll_engine (s : State) (ps : List Post) : (s.postAll ps).engine = s.engine := by
  induction ps generalizing s with
  | nil => rfl
  | cons p ps ih => simp [ih]

@[simp] theorem State.postAll_sched (s : State) (ps : List Post) : (s.postAll ps).sched = s.sched := by
  induction ps generalizing s with
  | nil => rfl
  | cons p ps ih => simp [ih]

@[simp] theorem State.postAll_line (s : State) (ps : List Post) : (s.postAll ps).line = s.line := by
  induction ps generalizing s with
  | nil => rfl
  | cons p ps ih => simp [ih]

@[simp] theorem State.postAll_sweep (s : State) (ps : List Post) : (s.postAll ps).sweep = s.sweep := by
  induction ps generalizing s with
  | nil => rfl
  | cons p ps ih => simp [ih]

@[simp] theorem State.postAll_config (s : State) (ps : List Post) : (s.postAll ps).config = s.config := by
  induction ps generalizing s with
  | nil => rfl
  | cons p ps ih => simp [ih]

@[simp] theorem State.postAll_time (s : State) (ps : List Post) : (s.postAll ps).time = s.time := by
  induction ps generalizing s with
  | nil => rfl
  | cons p ps ih => simp [ih]

@[simp] theorem State.postAll_inReset (s : State) (ps : List Post) : (s.postAll ps).inReset = s.inReset := by
  induction ps generalizing s with
  | nil => rfl
  | cons p ps ih => simp [ih]

@[simp] theorem State.postAll_freeIndex (s : State) (ps : List Post) : (s.postAll ps).freeIndex = s.freeIndex := by
  induction ps generalizing s with
  | nil => rfl
  | cons p ps ih => simp [ih]

@[simp] theorem State.postAll_pending (s : State) (ps : List Post) : (s.postAll ps).pending = s.pending := by
  induction ps generalizing s with
  | nil => rfl
  | cons p ps ih => simp [ih]

@[simp] theorem State.postAll_entry (s : State) (ps : List Post) (a : Addr) : (s.postAll ps).entry a = s.entry a := by
  induction ps generalizing s with
  | nil => rfl
  | cons p ps ih => simp [ih]

@[simp] theorem State.postAll_port_queue (s : State) (ps : List Post) (g : HostId) :
    ((s.postAll ps).port g).queue = (s.port g).queue := by
  induction ps generalizing s with
  | nil => rfl
  | cons p ps ih => simp [ih]

@[simp] theorem State.postAll_port_slot (s : State) (ps : List Post) (g : HostId) :
    ((s.postAll ps).port g).slot = (s.port g).slot := by
  induction ps generalizing s with
  | nil => rfl
  | cons p ps ih => simp [ih]

@[simp] theorem State.postAll_port_mask (s : State) (ps : List Post) (g : HostId) :
    ((s.postAll ps).port g).mask = (s.port g).mask := by
  induction ps generalizing s with
  | nil => rfl
  | cons p ps ih => simp [ih]

@[simp] theorem State.postAll_port_manage (s : State) (ps : List Post) (g : HostId) :
    ((s.postAll ps).port g).manage = (s.port g).manage := by
  induction ps generalizing s with
  | nil => rfl
  | cons p ps ih => simp [ih]

@[simp] theorem State.postAll_port_held (s : State) (ps : List Post) (g : HostId) :
    ((s.postAll ps).port g).held = (s.port g).held := by
  induction ps generalizing s with
  | nil => rfl
  | cons p ps ih => simp [ih]

@[simp] theorem State.postAll_port_hdo (s : State) (ps : List Post) (g : HostId) :
    ((s.postAll ps).port g).hdo = (s.port g).hdo := by
  induction ps generalizing s with
  | nil => rfl
  | cons p ps ih => simp [ih]

/-! ### The take of a request (R154) -/

/-- A take answers a next state only for a request at the head that the event names, and then it is the request decided
on the state without it. -/
theorem takeRequest_next {h : HostId} {names : Request → Bool} {act : Request → State → State} {s t : State}
    (ht : takeRequest h names act s = .next t) :
    ∃ r rest, s.AtHead h r rest ∧ names r = true ∧ t = act r (s.taken h rest) := by
  unfold takeRequest at ht
  split at ht
  · cases ht
  · split at ht
    · cases ht
    · next r rest hq =>
      split at ht
      · next hn =>
        cases ht
        exact ⟨r, rest, ⟨by simpa using ‹¬ s.inReset = true›, hq⟩, hn, rfl⟩
      · cases ht

/-- A take of a request at the head that the event names. -/
theorem takeRequest_of_atHead {h : HostId} {names : Request → Bool} {act : Request → State → State} {s : State}
    {r : Request} {rest : List Request} (hq : s.AtHead h r rest) (hn : names r = true) :
    takeRequest h names act s = .next (act r (s.taken h rest)) := by
  simp [takeRequest, hq.1, hq.2, hn, State.taken]

/-! ### Exchanges, running commands, expiries, line events -/

/-- An exchange always answers a next state: its effect where the port takes exchanges, the state unchanged where not. -/
theorem exchange_eq (h : HostId) (s act : State) :
    exchange h s act = .next (if s.takesExchanges h then act else s) := by
  unfold exchange; split <;> rfl

theorem running_next {s t : State} {r : Result} (ht : running s r = .next t) : s.inReset = false ∧ r = .next t := by
  unfold running at ht
  split at ht
  · cases ht
  · exact ⟨by simpa using ‹¬ s.inReset = true›, ht⟩

theorem running_of {s : State} (h : s.inReset = false) (r : Result) : running s r = r := by simp [running, h]

/-- An expiry answers a next state only for the running timer that expires next, and then it is the expiry's effect at the
timer's step. -/
theorem expiry_next {s t : State} {timer : Option Nat} {act : State → State} (ht : expiry s timer act = .next t) :
    s.inReset = false ∧ ∃ n, timer = some n ∧ s.expiresNext n = true ∧ t = act (s.elapseTo n) := by
  obtain ⟨h, ht⟩ := running_next ht
  split at ht
  · split at ht
    · cases ht; exact ⟨h, _, rfl, ‹_›, rfl⟩
    · cases ht
  · cases ht

theorem expiry_of {s : State} (h : s.inReset = false) {n : Nat} (hn : s.expiresNext n = true) (act : State → State) :
    expiry s (some n) act = .next (act (s.elapseTo n)) := by simp [expiry, running_of h, hn]

theorem Claim.mem_timers {c : Claim} {a : Addr} {n : Nat} {i : Instr} :
    (n, i) ∈ c.timers a ↔ (n = c.expires ∧ i = .leaseExpiry a) ∨ ∃ w ∈ c.waits, n = w.expires ∧ i = .waitExpiry a w.host := by
  simp [Claim.timers, eq_comm]

theorem State.mem_timersAt {s : State} {a : Addr} {n : Nat} {i : Instr} :
    (n, i) ∈ s.timersAt a ↔
      ((s.entry a).state = .lost ∧ (s.entry a).quarantine = some n ∧ i = .quarantineExpiry a) ∨
      (∃ c, (s.entry a).claim = some c ∧
        ((n = c.expires ∧ i = .leaseExpiry a) ∨ ∃ w ∈ c.waits, n = w.expires ∧ i = .waitExpiry a w.host)) ∨
      (∃ d, (s.entry a).deferred = some d ∧ d.phase = .timing n ∧ i = .pollTimerExpiry a) := by
  have hq : (∃ k, s.quarantineTimer a = some k ∧ k = n ∧ Instr.quarantineExpiry a = i) ↔
      (s.entry a).state = .lost ∧ (s.entry a).quarantine = some n ∧ i = .quarantineExpiry a := by
    unfold State.quarantineTimer; split <;> simp_all [eq_comm]
  have hp : (∃ k, (s.entry a).pollTimer = some k ∧ k = n ∧ Instr.pollTimerExpiry a = i) ↔
      ∃ d, (s.entry a).deferred = some d ∧ d.phase = .timing n ∧ i = .pollTimerExpiry a := by
    rcases hd : (s.entry a).deferred with _ | d
    · simp [Entry.pollTimer, hd]
    · cases hph : d.phase <;> simp [Entry.pollTimer, hd, hph, eq_comm]
  simp only [State.timersAt, List.mem_append, List.mem_map, List.mem_flatMap, Option.mem_toList, Prod.mk.injEq,
    Claim.mem_timers, hq, hp, or_assoc]

/-- The list of running timers holds exactly the timers that run. -/
theorem State.mem_timers {s : State} {n : Nat} {i : Instr} : (n, i) ∈ s.timers ↔ s.Runs n i := by
  simp only [State.timers, List.mem_append, List.mem_flatMap, List.mem_map, Option.mem_toList, Prod.mk.injEq,
    State.mem_timersAt, State.Runs, allAddrs, List.mem_finRange, true_and]
  constructor
  · rintro (h | ⟨k, h, rfl, rfl⟩)
    · exact .inr h
    · exact .inl ⟨h, rfl⟩
  · rintro (⟨h, rfl⟩ | h)
    · exact .inr ⟨n, h, rfl, rfl⟩
    · exact .inl h

/-- A timer of step `n` expires next exactly when the time base may reach its step. -/
theorem State.expiresNext_iff {s : State} {n : Nat} : s.expiresNext n = true ↔ s.Reaches n := by
  simp only [State.expiresNext, Bool.and_eq_true, decide_eq_true_eq, List.all_eq_true, State.Reaches]
  exact and_congr_right fun _ => ⟨fun h m c hr => h (m, c) (State.mem_timers.2 hr), fun h x hx => h x.1 x.2 (State.mem_timers.1 hx)⟩

/-- On an empty queue the command that runs by itself is that of a timer whose step is the time. -/
theorem State.dueExpiry_some {s : State} {c : Instr} (h : s.dueExpiry = some c) : s.inReset = false ∧ s.Runs s.time c := by
  unfold State.dueExpiry at h
  split at h
  · cases h
  · obtain ⟨⟨n, i⟩, hf, rfl⟩ := Option.map_eq_some_iff.1 h
    have hn : n = s.time := by simpa using List.find?_some hf
    exact ⟨by simpa using ‹¬ s.inReset = true›, hn ▸ State.mem_timers.1 (List.mem_of_find?_eq_some hf)⟩

theorem State.dueExpiry_none {s : State} (h : s.dueExpiry = none) (hr : s.inReset = false) (c : Instr) : ¬ s.Runs s.time c := by
  intro hc
  have := State.mem_timers.2 hc
  simp only [State.dueExpiry, hr, Bool.false_eq_true, if_false, Option.map_eq_none_iff, List.find?_eq_none] at h
  simpa using h _ this

/-- A line event answers a next state only for a transaction in a state of the controller that the event leaves. -/
theorem onTxn_next {s t : State} {from_ : LineState → Bool} {act : Txn → Result} (ht : onTxn s from_ act = .next t) :
    s.inReset = false ∧ s.cutPending = false ∧ from_ s.line.state = true ∧
      ∃ x, s.line.record = some x ∧ act x = .next t := by
  obtain ⟨h, ht⟩ := running_next ht
  split at ht
  · cases ht
  · next hc =>
    split at ht
    · next x hx =>
      simp only [Bool.or_eq_true, Bool.not_eq_true', not_or, Bool.not_eq_true, Bool.not_eq_false] at hc
      exact ⟨h, hc.1, hc.2, x, hx, ht⟩
    · cases ht

theorem onTxn_of {s : State} {from_ : LineState → Bool} {act : Txn → Result} {x : Txn} (h : s.inReset = false)
    (hc : s.cutPending = false) (hf : from_ s.line.state = true) (hx : s.line.record = some x) :
    onTxn s from_ act = act x := by
  simp [onTxn, running_of h, hc, hf, hx]

theorem inWindow_next {t : Txn} {k : Nat} {r : Result} {u : State} (h : inWindow t k r = .next u) :
    bitTimeOk k = true ∧ k ≤ t.window ∧ r = .next u := by
  unfold inWindow at h
  split at h
  · cases h
  · split at h
    · cases h
    · exact ⟨by simpa using ‹¬ (!bitTimeOk k) = true›, by omega, h⟩

theorem inWindow_of {t : Txn} {k : Nat} (hk : bitTimeOk k = true) (hw : k ≤ t.window) (r : Result) :
    inWindow t k r = r := by
  have : ¬ t.window < k := by omega
  simp [inWindow, hk, this]

/-! ### The laws of a port are kept by placing and offering (R157) -/

theorem Port.Wf.placeReply {p : Port} (hp : p.Wf) (r : Reply) : (p.placeReply r).Wf := by
  rcases p.placeReply_cases r with ⟨hm, he⟩ | ⟨-, he⟩
  · obtain ⟨h1, h2, h3, h4⟩ := hp
    have hl := List.length_erase_of_mem hm
    have := List.length_pos_of_mem hm
    rw [he]
    refine ⟨?_, h2.erase _, ?_, ?_⟩ <;> simp only [List.length_append, List.length_singleton, hl]
    · omega
    · omega
    · intro ho; have := h4 ho; omega
  · rw [he]; exact hp

theorem Port.Wf.offer {p : Port} (hp : p.Wf) (n : Notice) : (p.offer n).Wf := by
  obtain ⟨h1, h2, h3, h4⟩ := hp
  rcases p.offer_cases n with ⟨-, he⟩ | ⟨-, hf, he⟩ | ⟨-, hf, he⟩
  · rw [he]; exact ⟨h1, h2, h3, h4⟩
  · rw [he]
    refine ⟨h1, h2, h3, fun _ => ?_⟩
    simp only [Port.freeSpace, Config.outboundCapacity] at hf
    show 16 ≤ p.outbound.length
    omega
  · rw [he]
    simp only [Port.freeSpace, Config.outboundCapacity] at hf
    refine ⟨h1, h2, ?_, ?_⟩ <;> simp only [List.length_append, List.length_singleton]
    · omega
    · intro ho; have := h4 ho; omega

theorem State.PortsWf.post {s : State} (hs : s.PortsWf) (p : Post) : (s.post p).PortsWf := by
  intro g
  cases p with
  | reply h t k o q b =>
    simp only [State.post, State.port_setPort]
    split
    · exact (hs h).placeReply _
    · exact hs g
  | notice b =>
    simp only [State.post, State.port_offerAll]
    split
    · exact (hs g).offer _
    · exact hs g
  | noticeTo h b =>
    simp only [State.post, State.port_setPort]
    split
    · exact (hs h).offer _
    · exact hs g

/-- The items of an event keep every port's law. -/
theorem State.PortsWf.postAll {s : State} (hs : s.PortsWf) (ps : List Post) : (s.postAll ps).PortsWf := by
  induction ps generalizing s with
  | nil => exact hs
  | cons p ps ih => exact ih (hs.post p)

/-! ### Grants (R70 to R78) -/

/-- A grant is made only on a free line, and otherwise changes nothing. -/
theorem State.grant_busy {s : State} (h : s.lineFree = false) : s.grant = s := by simp [State.grant, h]

@[simp] theorem State.sendRoundToken_config (s : State) : s.sendRoundToken.config = s.config := by
  unfold State.sendRoundToken; split <;> rfl

@[simp] theorem State.sendRoundToken_time (s : State) : s.sendRoundToken.time = s.time := by
  unfold State.sendRoundToken; split <;> rfl

@[simp] theorem State.sendRoundToken_inReset (s : State) : s.sendRoundToken.inReset = s.inReset := by
  unfold State.sendRoundToken; split <;> rfl

@[simp] theorem State.sendRoundToken_freeIndex (s : State) : s.sendRoundToken.freeIndex = s.freeIndex := by
  unfold State.sendRoundToken; split <;> rfl

@[simp] theorem State.sendRoundToken_pending (s : State) : s.sendRoundToken.pending = s.pending := by
  unfold State.sendRoundToken; split <;> rfl

@[simp] theorem State.sendRoundToken_dir (s : State) : s.sendRoundToken.dir = s.dir := by
  unfold State.sendRoundToken; split <;> rfl

@[simp] theorem State.sendRoundToken_ports (s : State) : s.sendRoundToken.ports = s.ports := by
  unfold State.sendRoundToken; split <;> rfl

@[simp] theorem State.sendRoundToken_sweep (s : State) : s.sendRoundToken.sweep = s.sweep := by
  unfold State.sendRoundToken; split <;> rfl

@[simp] theorem State.sendRoundToken_sched (s : State) : s.sendRoundToken.sched = s.sched := by
  unfold State.sendRoundToken; split <;> rfl

@[simp] theorem State.grantSystem_config (s : State) : s.grantSystem.config = s.config := by
  unfold State.grantSystem
  simp only
  split
  · simp
  · split
    · rfl
    · split <;> rfl

@[simp] theorem State.grantSystem_time (s : State) : s.grantSystem.time = s.time := by
  unfold State.grantSystem
  simp only
  split
  · simp
  · split
    · rfl
    · split <;> rfl

@[simp] theorem State.grantSystem_inReset (s : State) : s.grantSystem.inReset = s.inReset := by
  unfold State.grantSystem
  simp only
  split
  · simp
  · split
    · rfl
    · split <;> rfl

@[simp] theorem State.grantSystem_freeIndex (s : State) : s.grantSystem.freeIndex = s.freeIndex := by
  unfold State.grantSystem
  simp only
  split
  · simp
  · split
    · rfl
    · split <;> rfl

@[simp] theorem State.grantSystem_pending (s : State) : s.grantSystem.pending = s.pending := by
  unfold State.grantSystem
  simp only
  split
  · simp
  · split
    · rfl
    · split <;> rfl

@[simp] theorem State.grantSystem_ports (s : State) : s.grantSystem.ports = s.ports := by
  unfold State.grantSystem
  simp only
  split
  · simp
  · split
    · rfl
    · split <;> rfl

@[simp] theorem State.choose_config (n : Nat) (s : State) : (State.choose n s).config = s.config := by
  induction n generalizing s with
  | zero => rfl
  | succ n ih =>
    unfold State.choose
    split
    · split
      · simp
      · simp only
        split
        · split
          · rfl
          · rw [ih]; simp
        · rfl
    · split
      · simp
      · rfl

@[simp] theorem State.grant_config (s : State) : s.grant.config = s.config := by
  unfold State.grant; split
  · simp
  · rfl

@[simp] theorem State.choose_time (n : Nat) (s : State) : (State.choose n s).time = s.time := by
  induction n generalizing s with
  | zero => rfl
  | succ n ih =>
    unfold State.choose
    split
    · split
      · simp
      · simp only
        split
        · split
          · rfl
          · rw [ih]; simp
        · rfl
    · split
      · simp
      · rfl

@[simp] theorem State.grant_time (s : State) : s.grant.time = s.time := by
  unfold State.grant; split
  · simp
  · rfl

@[simp] theorem State.choose_inReset (n : Nat) (s : State) : (State.choose n s).inReset = s.inReset := by
  induction n generalizing s with
  | zero => rfl
  | succ n ih =>
    unfold State.choose
    split
    · split
      · simp
      · simp only
        split
        · split
          · rfl
          · rw [ih]; simp
        · rfl
    · split
      · simp
      · rfl

@[simp] theorem State.grant_inReset (s : State) : s.grant.inReset = s.inReset := by
  unfold State.grant; split
  · simp
  · rfl

@[simp] theorem State.choose_freeIndex (n : Nat) (s : State) : (State.choose n s).freeIndex = s.freeIndex := by
  induction n generalizing s with
  | zero => rfl
  | succ n ih =>
    unfold State.choose
    split
    · split
      · simp
      · simp only
        split
        · split
          · rfl
          · rw [ih]; simp
        · rfl
    · split
      · simp
      · rfl

@[simp] theorem State.grant_freeIndex (s : State) : s.grant.freeIndex = s.freeIndex := by
  unfold State.grant; split
  · simp
  · rfl

@[simp] theorem State.choose_pending (n : Nat) (s : State) : (State.choose n s).pending = s.pending := by
  induction n generalizing s with
  | zero => rfl
  | succ n ih =>
    unfold State.choose
    split
    · split
      · simp
      · simp only
        split
        · split
          · rfl
          · rw [ih]; simp
        · rfl
    · split
      · simp
      · rfl

@[simp] theorem State.grant_pending (s : State) : s.grant.pending = s.pending := by
  unfold State.grant; split
  · simp
  · rfl

end Sys2Proof.Machine
end

