-- ==== Sys2Proof/Tests/Slice0.lean ====
section
/-! SUPPORT. Tests on small states: the well-formedness smoke, the formats against words worked out by hand from Sections 2.6,
2.7 and 12.3 to 12.5, single steps against sentences of the manual, and one witness for each statement that has hypotheses. -/

namespace Sys2Proof.Tests

set_option Elab.async false

open Sys2Proof Sys2Proof.Machine

/-! ### Helpers -/

/-- A running controller with a free line, an idle engine and nothing bound. -/
def idle : State := { State.reset with inReset := false, engine := { state := .idle, wanted := false } }

/-- Host `h` has one request in its queue, its tag owed, and the manage flag. -/
def queued (s : State) (h : HostId) (code tag : Byte) (body : List Byte) : State :=
  s.setPort h { s.port h with queue := [⟨code, tag, body⟩], owed := [tag], manage := true }

/-- A module bound at generation 3 with class 0x4C. -/
def bound : Entry := { state := .present, uid := some 0x112233440317, cls := some 0x4C, gen := 3 }

/-- The module of `bound` in quarantine until step 50. -/
def lost : Entry := { bound with state := .lost, quarantine := some 50 }

/-- A claim of host 1 with host 2 waiting. -/
def claimed : Claim := ⟨1, 100, [⟨2, 7, ⟨1, 3⟩, 40, 60⟩]⟩

/-- A deferred record of host 1. -/
def deferral (p : PollPhase) : Deferred := ⟨some 1, 8, 4, 2, p⟩

/-- The idle controller with this entry at address 1. -/
def at1 (e : Entry) : State := idle.setEntry 0 e

/-- The idle controller with one recall record. -/
def recalled (u : Uid) (a : Addr) : State := idle.setRecalls [⟨u, a, 0⟩]

/-- A transaction record. -/
def txn (k : TxnKind) (address : BitVec 6) (o : Owner) (attempt limit : Nat) : Txn :=
  { kind := k, address := address, argument := 0, owner := o, tag := 9, replyDropped := false, attempt := attempt,
    limit := limit, mark := .clear, buffer := [], window := 24 }

/-- The transaction on the line, in this state of the controller. -/
def onLine (s : State) (l : LineState) (t : Txn) : State := { s with line := { s.line with state := l, record := some t } }

/-- A gap of 8 bit times is running. -/
def inGap (s : State) : State := { s with line := { s.line with gap := some 8 } }

/-- A round's engine state with a candidate, `bound`'s uid, and address 1 chosen. -/
def engine (st : EngineState) (attempt : Nat) : Engine :=
  { state := st, wanted := false, candidate := some 0x112233440317, chosen := some 0, attempt := attempt, attemptLimit := 3 }

/-- The idle controller in a round. -/
def round (st : EngineState) (attempt : Nat) : State :=
  { at1 { bound with state := .binding, cls := none } with engine := engine st attempt }

/-- A line reset in progress. -/
def resetting (p : ResetPhase) : State := { idle with line := { idle.line with reset := some ⟨p, .requested 1, [⟨1, 5, false⟩]⟩ } }

/-- The slot of host `h` holds a PING of handle (1, 3), not granted. -/
def slotted (s : State) (h : HostId) : State := s.setSlot h (some ⟨⟨9, .ping, ⟨1, 3⟩, 0, 0, []⟩, false⟩)

/-- Whether a command answers a next state that meets a test. -/
def answers (r : Result) (p : State → Bool) : Bool :=
  match r with
  | .next t => p t
  | _ => false

/-- Whether a command is refused for this reason. -/
def refuses (r : Result) (why : Refusal) : Bool :=
  match r with
  | .refused w => w == why
  | _ => false

/-! ### Well-formedness: one ill-formed command for each check -/

theorem test_refuses_long_body : (Instr.request 0 1 0 (List.replicate 256 0) 0).wellFormed = false := by decide +kernel
theorem test_refuses_named_exchange : (Instr.unknownExchange 0 0xA1).wellFormed = false := by decide
theorem test_refuses_short_wait : (Instr.resetWaitEnd 7).wellFormed = false := by decide
theorem test_refuses_long_wait : (Instr.resetWaitEnd 601).wellFormed = false := by decide
theorem test_refuses_short_deferral : (Instr.startBitDeferralEnd [true]).wellFormed = false := by decide
theorem test_refuses_bit_time_zero : (Instr.answerTokenJudged 0 0).wellFormed = false := by decide
theorem test_refuses_bit_time_256 : (Instr.answerTokenJudged 256 0).wellFormed = false := by decide
theorem test_refuses_empty_burst : (Instr.readBurstJudged 1 [] 0 true).wellFormed = false := by decide
theorem test_refuses_long_burst : (Instr.readBurstJudged 1 (List.replicate 65 0) 0 true).wellFormed = false := by decide
theorem test_refuses_receipt_bit_time : (Instr.receiptJudged (some (0, 0))).wellFormed = false := by decide
theorem test_accepts_bounds : ((Instr.resetWaitEnd 8).wellFormed && (Instr.resetWaitEnd 600).wellFormed &&
    (Instr.answerTokenJudged 255 0).wellFormed && (Instr.unknownExchange 0 0xA5).wellFormed) = true := by decide

/-! ### Formats: words worked out by hand from the manual's generators and field orders -/

theorem test_no_word_spells_a_command : decodeTableWord 16 0xFFFF = none := rfl
/-- RESET: start 0, address 0, code 1, argument 0, check code, end 1 (R34). -/
theorem test_reset_token : commandToken 0 1 0 = 0x8000157#38 := by decide +kernel
theorem test_seek_token : commandToken 0 3 0 = 0x180001F5#38 := by decide +kernel
/-- ASSIGN of address 1 to a uid that ends in 0x317 (R42). -/
theorem test_assign_token : commandToken 63 4 (assignArgument 0 0x317) = 0x1FA0262FE1#38 := by decide +kernel
/-- READ at address 9 of 4 bytes from register 16 (R45). -/
theorem test_read_token : commandToken 9 7 (accessArgument 16 4) = 0x4B808075F#38 := by decide +kernel
theorem test_status_token : commandToken 62 9 0 = 0x1F48000063#38 := by decide +kernel
/-- Answers after the start bit: echo, status, value, check code, end 1 (R35). -/
theorem test_ok_answer : answerBits 9 0 4 = 0x90000997#34 := by decide +kernel
theorem test_assign_answer : answerBits 1 0 0x4C00 = 0x109801ED#34 := by decide +kernel
theorem test_ping_answer : answerBits 1 0 0x0317 = 0x10062E17#34 := by decide +kernel
theorem test_pend_answer : answerBits 9 1 4 = 0x92000941#34 := by decide +kernel
/-- The CRC-16 of a burst of bytes 1 to 4 (R37) and CRC-8 of frames (R173). -/
theorem test_crc16 : crc16Bytes [1, 2, 3, 4] = 0x9E33 := by decide +kernel
theorem test_crc8_settings : crc8Bytes [0x0E, 7, 0] = 0x47 := by decide +kernel
theorem test_crc8_ping : crc8Bytes [0x0B, 9, 2, 1, 3] = 0xD3 := by decide +kernel
/-- Status codes 4 to 7, a low end bit and another echo are garbled (R35, R36). -/
theorem test_bad_answers_are_garbled :
    (judgeAnswer (txn .ping 1 .sweep 1 1) (answerBits 1 4 0), judgeAnswer (txn .ping 1 .sweep 1 1) (answerBits 1 0 0 - 1),
     judgeAnswer (txn .ping 1 .sweep 1 1) (answerBits 2 0 0)) = (.garbled, .garbled, .garbled) := by decide +kernel
/-- LINE_RESET after power-on (Section 12.4). -/
theorem test_line_reset_bytes : itemBytes (.notice ⟨0, .lineReset .powerOn⟩) = [0x02, 0x09, 0, 0, 2, 0, 0xFF] := by
  decide +kernel
/-- STALE for a PING (Section 12.3). -/
theorem test_stale_bytes : itemBytes (.reply ⟨9, 0x0B, .stale, 0, 0x0102, .empty⟩) = [0x01, 9, 0x0B, 2, 0, 1, 2, 0] := by
  decide +kernel

/-! ### Single steps -/

/-- R169, R170: power-on reset ends with LINE_RESET in every queue; the strap gives host 2 the manage flag. -/
theorem test_power_on_end : answers (exec (.powerOnResetEnd 0b0100) State.reset) (fun t =>
    (t.port 2).manage && !(t.port 0).manage && (t.port 1).outbound == [.notice ⟨0, .lineReset .powerOn⟩] && t.hatn 1)
      = true := by decide +kernel

/-- R169: nothing runs while PORn is asserted; its end is a change only then. -/
theorem test_reset_gates : (refuses (exec .lineGapEnd State.reset) .inPowerOnReset &&
    refuses (exec (.powerOnResetEnd 0) idle) .notInPowerOnReset) = true := by decide +kernel

/-- R153: a SETTINGS frame with a good check byte is ACCEPTED; with a bad one MALFORMED. -/
theorem test_request : (answers (exec (.request 0 0x0E 7 [] 0x47) idle) (fun t =>
      (t.port 0).hdo == [0x00] && (t.port 0).queue == [⟨0x0E, 7, []⟩] && (t.port 0).owed == [7]) &&
    answers (exec (.request 0 0x0E 7 [] 0x46) idle) (fun t => (t.port 0).hdo == [0x03] && (t.port 0).queue == []))
      = true := by decide +kernel

/-- R153: a ninth request is FULL; an owed tag is DUPLICATE_TAG. -/
theorem test_request_turned_away :
    (answers (exec (.request 0 0x0E 7 [] 0x47) (idle.setPort 0 { owed := [0, 1, 2, 3, 4, 5, 6, 8] })) (fun t =>
      (t.port 0).hdo == [0x01]) &&
    answers (exec (.request 0 0x0E 7 [] 0x47) (idle.setPort 0 { owed := [7] })) (fun t => (t.port 0).hdo == [0x02]))
      = true := by decide +kernel

/-- Section 12.1: the bytes of a SETTINGS request with tag 7 are a REQUEST, and without the check byte nothing; of the others, each
byte names its exchange. -/
theorem test_select_period : idle.selectPeriod 0 true [0xA1, 0x0E, 7, 0, 0x47] = some (.request 0 0x0E 7 [] 0x47) ∧
    idle.selectPeriod 0 true [0xA1, 0x0E, 7, 0] = none ∧ idle.selectPeriod 0 true [0xA2, 0] = some (.fetch 0 true) ∧
    idle.selectPeriod 0 true [0xA2] = none ∧ idle.selectPeriod 0 true [0xA3, 7, 0x15] = some (.cancel 0 7 0x15) ∧
    idle.selectPeriod 0 true [0xA4] = some (.hostReset 0) ∧ idle.selectPeriod 0 true [0xA5] = some (.unknownExchange 0 0xA5) := by
  decide +kernel

/-- R158: FETCH of an empty queue gives EMPTY; of one item ITEM and its bytes. -/
theorem test_fetch : (answers (exec (.fetch 0 true) idle) (fun t => (t.port 0).hdo == [0x21]) &&
    answers (exec (.fetch 0 false) (idle.setPort 0 { outbound := [.notice ⟨1, .lineFault⟩] })) (fun t =>
      (t.port 0).hdo == [0x20, 0x02, 0x08, 0, 1, 0] && (t.port 0).outbound == [])) = true := by decide +kernel

/-- R161: a waiting CLAIM is cancelled. -/
theorem test_cancel_wait : answers (exec (.cancel 2 7 (crc8Bytes [7])) (at1 { bound with claim := some claimed }))
    (fun t => (t.port 2).hdo == [0x10] && (t.entry 0).claim == some { claimed with waits := [] }) = true := by decide +kernel

/-- R135: a port reset hands the claim of the host over to the waiting host. -/
theorem test_host_reset : answers (exec (.hostReset 1)
    ((at1 { bound with claim := some claimed }).setPort 2 { owed := [7] })) (fun t =>
      (t.entry 0).claim == some ⟨2, 40, []⟩ && (t.port 1).hdo == [0x30] && (t.port 2).owed == []) = true := by decide +kernel

/-- R22: LOOKUP of a recalled uid is NOT_FOUND and carries position 1. -/
theorem test_lookup_recalled : answers (exec (.lookup 0) (queued (recalled 5 3) 0 2 9 (bytes48 5))) (fun t =>
    (t.port 0).outbound == [.reply ⟨9, 2, .notFound, 0, 0, .lookup (.recalled 3 0 1)⟩]) = true := by decide +kernel

/-- R122: CLAIM of an unclaimed entry is GRANTED with its lease. -/
theorem test_claim : answers (exec (.claim 0) (queued (at1 bound) 0 5 9 [1, 3, 1, 0, 0, 0])) (fun t =>
    (t.entry 0).claim == some ⟨0, 256, []⟩) = true := by decide +kernel

/-- R76, R78: a READ of an idle line is granted in its take: READ at address 1, register 16, length 4. -/
theorem test_read_granted : answers (exec (.read 0) (queued (at1 bound) 0 9 9 [1, 3, 0, 16, 4])) (fun t =>
    t.line.state == .command && t.line.record.map Txn.token == some (commandToken 1 7 ((16 <<< 6) + 3))) = true := by
  decide +kernel

/-- R101: the data of a WRITE go to the record's buffer. -/
theorem test_write_granted : answers (exec (.write 0) (queued (at1 bound) 0 10 9 [1, 3, 0, 16, 0xAA, 0xBB])) (fun t =>
    t.line.record.map (fun x => x.buffer) == some [0xAA, 0xBB]) = true := by decide +kernel

/-- R86, R29: a garbled READ answer is retried after the long gap. -/
theorem test_garbled_read : answers (exec (.answerTokenJudged 1 0) (onLine (at1 bound) .answerWait (txn .read 1 (.host 0) 1 3)))
    (fun t => t.line.gap == some 560 && t.line.record.map (fun x => x.mark) == some .checkFailed) = true := by decide +kernel

/-- R104: a PEND receipt makes a deferred record that polls after the poll interval, and no reply. -/
theorem test_pend_receipt : answers (exec (.receiptJudged (some (1, answerBits 1 1 1)))
    (onLine (at1 bound) .receiptWait (txn .write 1 (.host 0) 1 3))) (fun t =>
      (t.entry 0).deferred == some ⟨some 0, 9, 1, 0, .timing 5⟩ && (t.port 0).outbound == []) = true := by decide +kernel

/-- R3, R56: the ASSIGN answer 0x4C00 completes the bind at generation 4 with class 0x4C. -/
theorem test_bind : answers (exec (.answerTokenJudged 1 (answerBits 1 0 0x4C00))
    (onLine (round .binding 1) .answerWait { txn .assign 63 .identification 1 1 with argument := assignArgument 0 0x317 }))
    (fun t => t.entry 0 == { bound with gen := 4 } && t.dir.serial == 1) = true := by decide +kernel

/-- R53, R54: all-ones ends the round in silence, all-zeros with LINE_FAULT. -/
theorem test_contention_ends :
    (answers (exec (.contentionEnd (BitVec.allOnes 48)) (onLine (round .seeking 0) .contention (txn .seek 0 .identification 1 1)))
      (fun t => t.engine.ending == some .plain && (t.port 0).outbound == []) &&
    answers (exec (.contentionEnd 0) (onLine (round .seeking 0) .contention (txn .seek 0 .identification 1 1)))
      (fun t => t.engine.ending == some .fouled && (t.port 0).outbound == [.notice ⟨0, .lineFault⟩])) = true := by
  decide +kernel

/-- R8: the third miss makes the entry LOST, whose notice the default mask selects. -/
theorem test_third_miss : answers (exec .answerWindowExpiry
    (onLine (at1 { bound with state := .suspect, miss := 2 }) .answerWait (txn .ping 1 .sweep 3 3))) (fun t =>
      (t.entry 0).state == .lost && (t.entry 0).quarantine == some 2000 &&
      (t.port 0).outbound == [.notice ⟨1, .lost 0 3 0x112233440317⟩]) = true := by decide +kernel

/-- R11: quarantine ends at step 50 with a recall record and FREED. -/
theorem test_quarantine_ends : answers (exec (.quarantineExpiry 0) (at1 lost)) (fun t =>
    t.time == 50 && t.entry 0 == { gen := 3 } && t.dir.recalls == [⟨0x112233440317, 0, 3⟩] &&
    (t.port 0).outbound == [.notice ⟨1, .freed 0 true⟩]) = true := by decide +kernel

/-- R128: a lease that runs out at step 55 tells its holder and goes to the waiting host. -/
theorem test_lease_ends : answers (exec (.leaseExpiry 0)
    ((at1 { bound with claim := some { claimed with expires := 55 } }).setPort 2 { owed := [7] })) (fun t =>
      (t.entry 0).claim == some ⟨2, 95, []⟩ &&
      (t.port 1).outbound == [.notice ⟨0, .claimRevoked 0 3 .leaseExpired⟩]) = true := by decide +kernel

/-- R175: a timer expires at its step alone, and not before a timer that expires earlier. -/
theorem test_timers_keep_their_steps :
    (refuses (exec (.leaseExpiry 0) (at1 { bound with claim := some claimed })) .timerNotDue &&
    refuses (exec (.quarantineExpiry 0) { at1 lost with time := 51 }) .timerNotDue &&
    answers (step { at1 lost with time := 50 }) (fun t => (t.entry 0).state == .free) &&
    answers (step { at1 lost with time := 49 }) (fun t => t.time == 50 && (t.entry 0).state == .lost)) = true := by
  decide +kernel

/-- R29, R171: a deferral ends after 2 released bit times in a row, or 24 low of its own. -/
theorem test_deferral : deferralEnds 0 0 [false, true, true] = true ∧ deferralEnds 0 0 (List.replicate 24 false) = true ∧
    deferralEnds 0 0 (List.replicate 23 false) = false ∧ deferralEnds 0 0 [true, true, true] = false := by decide

/-- R29, R30: a pulse in IDLE whose engine is then granted defers the start bit, so that the token cannot end. -/
theorem test_join_pulse : answers (exec .joinPulseRecognised idle) (fun t =>
    t.line.state == .command && t.line.start == .deferred 0 && refuses (exec .commandTokenEnd t) .lineNotInThatState)
      = true := by decide +kernel

/-- R29, R30: a low that reaches its 10th bit time in a gap of 8 did not begin there and is not recognised. -/
theorem test_low_from_another_state : answers (exec .joinPulseRecognised (inGap idle)) (fun t => t == inGap idle) = true := by
  decide +kernel

/-- R9: miss limit 1 makes a SUSPECT entry PRESENT and moves the serial. -/
theorem test_miss_limit : answers (exec (.configureMissLimit 0)
    (queued (at1 { bound with state := .suspect, miss := 2 }) 0 0x0F 9 [4, 0, 1])) (fun t =>
      t.entry 0 == bound && t.dir.serial == 1 && t.config.missLimit == 1) = true := by decide +kernel

/-- R26: a line reset frees the entries into the recall list. -/
theorem test_line_reset : answers (exec (.lineReset 0) (queued (at1 bound) 0 0x10 9 [])) (fun t =>
    t.entry 0 == { gen := 3 } && t.dir.recalls == [⟨0x112233440317, 0, 3⟩] && t.engine.state == .waiting) = true := by
  decide +kernel

/-- R10, R11: a final bind failure at quarantine 0 places LOST, FREED and BIND_FAILED with one serial increment (log 20). -/
theorem test_bind_fails_at_quarantine_0 :
    let s := round .confirming 3
    answers (exec .answerWindowExpiry (onLine { (s.setPort 0 { mask := 0x1FF }) with
      config := { quarantine := 0 }, engine := { s.engine with lastFailed := some 0x112233440317, failures := 2 } }
        .answerWait (txn .ping 1 .identification 1 1))) (fun t =>
      t.entry 0 == { gen := 3 } && t.dir.recalls == [⟨0x112233440317, 0, 3⟩] && (t.port 0).outbound ==
        [.notice ⟨1, .lost 0 3 0x112233440317⟩, .notice ⟨1, .freed 0 true⟩, .notice ⟨1, .bindFailed 0x112233440317⟩])
      = true := by decide +kernel

/-! ### Modules (Chapter 2) -/

/-- R45: a range that runs past register 4095 is not answered OK. -/
theorem test_range_past_the_last_register :
    rangeOk (fun _ => true) (accessArgument 4095 1) = true ∧ rangeOk (fun _ => true) (accessArgument 4095 2) = false := by
  decide +kernel

/-- R37: the burst of a WRITE may begin in bit time 8 and no later. -/
theorem test_burst_wait : (Transfer.burstWait 0 7).awaitBurst false = .writeBurst 0 ∧
    (Transfer.burstWait 0 7).awaitBurst true = .none := by decide

/-- R33: the 48th low bit time abandons a transfer and leaves the state as it is. -/
theorem test_hold_abandons :
    let m : Module := { uid := 5, cls := 1, state := .addressed 0, transfer := .writeBurst 0, low := 46 }
    (m.bitTime false false).transfer = .writeBurst 0 ∧ ((m.bitTime false false).bitTime false false).transfer = .none ∧
      ((m.bitTime false false).bitTime false false).state = .addressed 0 := by decide

/-- R46: a write that was accepted with PEND reaches the registers when it is completed OK, and not before. -/
theorem test_deferred_write_completes :
    let inner : Inner := { readable := fun _ => true, writable := fun _ => true, register := fun _ => 0 }
    let argument := accessArgument 100 2
    let m : Module := { uid := 5, cls := 1, state := .addressed 0, transfer := .writeBurst argument }
    let m1 := m.burstEnds [7, 8] (crc16Bytes [7, 8]) true 0 .notYet
    let i1 := inner.afterBurst m [7, 8] (crc16Bytes [7, 8]) true .notYet inner.register
    m1.transfer = .receipt ⟨1, .pend, 2⟩ ∧ i1.readData argument = [0, 0] ∧
      (m1.completeWrite i1 .ok i1.register).1.state = .addressed 0 ∧
      (m1.completeWrite i1 .ok i1.register).2.readData argument = [7, 8] := by decide +kernel

/-- R31, R40: a module unparked after 65536 bit times and more keeps its mark, and clears it 65536 bit times later. -/
theorem test_unparked_keeps_its_mark :
    let inner : Inner := { readable := fun _ => true, writable := fun _ => true, register := fun _ => 0 }
    let m : Module := { uid := 5, cls := 1, state := .parked, announced := true, sinceSeek := 70000 }
    let m1 := (((m.bitTime true false).obey inner ⟨.unpark, 0, 0⟩).1.bitTime true false)
    m1.announced = true ∧ m1.sinceSeek = 1 ∧ ({ m1 with sinceSeek := 65535 }.bitTime true false).announced = false := by
  decide +kernel

/-- R30: ten lows that begin in IDLE are one report, also where a deferral follows; those that begin in COMMAND are none. -/
theorem test_join_reports : joinReports .none (List.replicate 12 (.idle, false)) = 1 ∧
    joinReports .none (List.replicate 5 (.idle, false) ++ List.replicate 5 (.deferring, false)) = 1 ∧
    joinReports .none ((.deferring, false) :: List.replicate 12 (.idle, false)) = 0 ∧
    joinReports .none (List.replicate 9 (.idle, false)) = 0 := by decide

/-- R31: 8 released bit times after a transaction followed to its end make the line quiet, and 263 after anything else do not;
after a pulse the next is due at 4096 bit times. -/
theorem test_module_pulses :
    let m : Module := { uid := 5, cls := 1 }
    { m with follow := .ended, released := 8 }.pulses = true ∧ { m with follow := .lost, released := 263 }.pulses = false ∧
      { m with released := 264, sincePulse := some 4095 }.pulses = false ∧
      { m with released := 264, sincePulse := some 4096 }.pulses = true := by decide

/-- R41: of three contenders the smallest uid is sampled and stays. -/
theorem test_contention : contentionSample freeLine [9, 5, 12] = 5 ∧ contentionLeft freeLine [9, 5, 12] = [5] := by
  decide +kernel

/-- R41: on a line held low the result is all-zeros and nobody survives. -/
theorem test_contention_held_low :
    contentionSample lineHeldLow [9, 5, 12] = 0 ∧ contentionLeft lineHeldLow [9, 5, 12] = [] := by decide +kernel

/-- R41: a hold from slot 48 on, where the contender's last bit is 0: it has lost no slot and becomes no survivor, as it would on a
line that something else held low there. -/
theorem test_hold_in_the_slots :
    let m : Module := { uid := 6, cls := 1, transfer := .slots }
    let rest := freeLine - 1
    contentionLeft rest [6] = [6] ∧ (m.contended rest true [6]).state = .unaddressed ∧
      (m.contended rest true [6]).transfer = .none ∧ (m.contended rest false [6]).state = .survivor := by decide +kernel

/-- R28, R33: a module that reads 0 where it releases FDA stops there; at a 0 of its own it goes on, and its count stays. -/
theorem test_collision :
    let m : Module := { uid := 5, cls := 1, state := .addressed 0, transfer := .readBurst [0], sending := [false, true], low := 3 }
    let m1 := m.bitTime false false
    let m2 := m1.bitTime false false
    (m1.transfer, m1.sending, m1.low) = (.readBurst [0], [true], 3) ∧ (m2.transfer, m2.sending, m2.low) = (.none, [], 4) ∧
      m2.state = .addressed 0 ∧ (m1.bitTime true false).transfer = .readBurst [0] := by decide

/-- R28: what a module puts on the line bit by bit is what the rule of a checking sender gives: stopped at its second 1. -/
theorem test_sender : ({ uid := 5, cls := 1, sending := [false, true, false, true, false] } : Module).sends
    [false, true, true, false, false] = sendChecked [false, true, false, true, false] [false, true, true, false, false] := by
  decide

/-! ### Witnesses: for each statement with hypotheses, a state and operands that meet them, clause by clause -/

theorem witness_StepRunsTheFrontCommand : ∃ t, step { idle with pending := [.joinPulseRecognised] } = .next t := ⟨_, rfl⟩
/-- In reset; running with no timer at the time; with a quarantine that ends at it. -/
theorem witness_IdleStepLetsTimePass : idle.pending = [] ∧ State.reset.pending = [] ∧ State.reset.inReset = true ∧
    idle.inReset = false ∧ idle.dueExpiry = none ∧ { at1 lost with time := 50 }.dueExpiry = some (.quarantineExpiry 0) := by
  decide +kernel
theorem witness_CommandsLeaveTheWaitingQueue : ∃ t, exec (.unknownExchange 0 0) idle = .next t := ⟨_, rfl⟩
theorem witness_PowerOnResetEndLeavesStatedValues : State.reset.inReset = true := rfl
theorem witness_RequestDecidedByFirstCondition : idle.inReset = false ∧ (idle.port 3).held = false := by decide
theorem witness_FetchRemovesTheOldestItem : idle.inReset = false ∧ (idle.port 3).held = false := by decide

/-- Queued, slotted, waiting, owed only, item only, unknown; and a bad check byte. -/
theorem witness_CancelDecidedByThePhaseItFinds :
    (0x00 : Byte) ≠ crc8Bytes [9] ∧
    (idle.inReset = false ∧ ∃ r ∈ ((queued idle 0 14 9 []).port 0).queue, r.tag = 9) ∧
    (((slotted idle 0).port 0).queue = [] ∧ ((slotted idle 0).port 0).slot.map (fun sl => (sl.granted, sl.req.tag)) =
      some (false, 9)) ∧
    ((at1 { bound with claim := some claimed }).entry 0).hasWait 2 7 = true ∧
    (7 ∈ ((idle.setPort 2 { owed := [7] }).port 2).owed ∧ ((idle.setPort 2 { owed := [7] }).port 2).queue = []) ∧
    ((idle.port 0).owed = [] ∧ (idle.port 0).outbound = [] ∧ (idle.port 0).slot = none) := by decide +kernel

theorem witness_UnknownExchangesAndHeldPorts :
    (0x00 : Byte) ∉ [(0xA1 : Byte), 0xA2, 0xA3, 0xA4] ∧ (0xA0 : Byte) ∉ [(0xA1 : Byte), 0xA2, 0xA3, 0xA4] ∧
    (0xA5 : Byte) ∉ [(0xA1 : Byte), 0xA2, 0xA3, 0xA4] ∧
    ((idle.setPort 1 { idle.port 1 with held := true }).port 1).held = true := by decide +kernel

/-- A claim of host 1 whose only wait item is its own lets the other ports stay as they are. -/
theorem witness_HostResetReachesAllWorkOfTheHost : idle.inReset = false ∧ (idle.port 1).held = false ∧
    (∀ a, ((at1 { bound with claim := some ⟨1, 9, []⟩ }).entry a).claim.all fun c =>
      c.holder == 1 && c.waits.all fun w => w.host == 1) ∧
    ((at1 { bound with claim := some claimed }).entry 0).claim = some claimed ∧ claimed.holder = 1 := by decide +kernel

theorem witness_HrstnEdgesResetAndReleaseThePort :
    ((idle.port 1).held = false ∧ idle.inReset = false) ∧
    ((State.reset.port 1).held = false ∧ State.reset.inReset = true) ∧
    ((idle.setPort 1 { idle.port 1 with held := true }).port 1).held = true := by decide +kernel

/-- Codes 0 and 17, at either end of the sixteen; bodies one byte short or long. -/
theorem witness_CodeAndShapeAreCheckedAtTheTake :
    (queued idle 0 0 9 []).AtHead 0 ⟨0, 9, []⟩ [] ∧ (queued idle 0 17 9 []).AtHead 0 ⟨17, 9, []⟩ [] ∧
    ((queued idle 0 1 9 []).AtHead 0 ⟨1, 9, []⟩ [] ∧ bodyFits 1 0 = false) ∧
    ((queued idle 0 16 9 [0]).AtHead 0 ⟨16, 9, [0]⟩ [] ∧ bodyFits 16 1 = false) ∧
    ((queued idle 0 9 9 [1, 3, 0, 0]).AtHead 0 ⟨9, 9, [1, 3, 0, 0]⟩ [] ∧ bodyFits 9 4 = false ∧
      ((queued idle 0 9 9 [1, 3, 0, 0]).port 0).slot = none) ∧
    ((queued idle 0 5 9 [1]).AtHead 0 ⟨5, 9, [1]⟩ [] ∧ bodyFits 5 1 = false) ∧
    ((queued idle 0 8 9 [1, 3, 0]).AtHead 0 ⟨8, 9, [1, 3, 0]⟩ [] ∧ bodyFits 8 3 = false) := by decide +kernel

/-- The queued request of a host without the manage flag. -/
def unmanaged (code : Byte) (body : List Byte) : State := idle.setPort 0 { queue := [⟨code, 9, body⟩], owed := [9] }

theorem witness_ManagingRequestsDeniedWithoutTheFlag :
    ((unmanaged 4 (bytes48 5)).AtHead 0 ⟨4, 9, bytes48 5⟩ [] ∧ bodyFits 4 6 = true ∧
      ((unmanaged 4 (bytes48 5)).port 0).manage = false) ∧
    ((unmanaged 15 [1, 0, 0]).AtHead 0 ⟨15, 9, [1, 0, 0]⟩ [] ∧ bodyFits 15 3 = true) ∧
    ((unmanaged 16 []).AtHead 0 ⟨16, 9, []⟩ [] ∧ bodyFits 16 0 = true) ∧
    ((unmanaged 8 [1, 3]).AtHead 0 ⟨8, 9, [1, 3]⟩ [] ∧ bodyFits 8 2 = true) := by decide +kernel

/-- Starting addresses 0 and 63, which are INVALID, and 1 and 62, which are not. -/
theorem witness_ListReportsEntriesFromAnAddress :
    ∀ b ∈ [(0 : Byte), 1, 62, 63], (queued (at1 bound) 0 1 9 [b]).AtHead 0 ⟨1, 9, [b]⟩ [] := by decide +kernel

theorem witness_LookupFindsTheUid :
    ((queued (at1 bound) 0 2 9 (bytes48 0x112233440317)).AtHead 0 ⟨2, 9, bytes48 0x112233440317⟩ [] ∧
      ((at1 bound).entry 0).state ≠ .free ∧ ((at1 bound).entry 0).uid = some 0x112233440317) ∧
    ((queued (recalled 5 3) 0 2 9 (bytes48 5)).AtHead 0 ⟨2, 9, bytes48 5⟩ [] ∧
      (recalled 5 3).dir.recalls = [] ++ ⟨5, 3, 0⟩ :: [] ∧ ∀ a, ((recalled 5 3).entry a).uid = none) ∧
    ((queued idle 0 2 9 (bytes48 5)).AtHead 0 ⟨2, 9, bytes48 5⟩ [] ∧ ∀ x ∈ idle.dir.recalls, x.uid ≠ 5) := by
  decide +kernel

theorem witness_RecallsReportsTheListFromAPosition :
    ∀ b ∈ [(0 : Byte), 23, 24], (queued (recalled 5 3) 0 3 9 [b]).AtHead 0 ⟨3, 9, [b]⟩ [] := by decide +kernel

/-- A recorded uid, a LOST one, a bound one and an unknown one. -/
theorem witness_ForgetRemovesARecordOrFreesALostEntry :
    (((queued (recalled 5 3) 0 4 9 (bytes48 5)).port 0).manage = true ∧
      (queued (recalled 5 3) 0 4 9 (bytes48 5)).AtHead 0 ⟨4, 9, bytes48 5⟩ [] ∧ ∃ x ∈ (recalled 5 3).dir.recalls, x.uid = 5) ∧
    ((queued (at1 lost) 0 4 9 (bytes48 0x112233440317)).AtHead 0 ⟨4, 9, bytes48 0x112233440317⟩ [] ∧
      ((at1 lost).entry 0).uid = some 0x112233440317 ∧ ((at1 lost).entry 0).state = .lost ∧ (at1 lost).dir.recalls = []) ∧
    (((at1 bound).entry 0).uid = some 0x112233440317 ∧ ((at1 bound).entry 0).state = .present) ∧
    ((queued idle 0 4 9 (bytes48 5)).AtHead 0 ⟨4, 9, bytes48 5⟩ [] ∧ idle.dir.recalls = []) := by decide +kernel

/-- Address bytes 0 and 63; a lease of 0 at address 1; another generation; an unbound entry at address 62. -/
theorem witness_ClaimRequestsAreCheckedInOrder :
    (∀ ha ∈ [(0 : Byte), 63], (queued (at1 bound) 0 5 9 [ha, 3, 0, 1, 0, 0]).AtHead 0 ⟨5, 9, [ha, 3, 0, 1, 0, 0]⟩ []) ∧
    ((queued (at1 bound) 0 6 9 [1, 3, 0, 0]).AtHead 0 ⟨6, 9, [1, 3, 0, 0]⟩ [] ∧ bodyFits 6 4 = true ∧
      bodyWord ⟨6, 9, [1, 3, 0, 0]⟩ 2 = 0 ∧ addrNum 0 = (bodyHandle ⟨6, 9, [1, 3, 0, 0]⟩).addr.toNat) ∧
    ((queued (at1 bound) 0 7 9 [1, 2]).AtHead 0 ⟨7, 9, [1, 2]⟩ [] ∧ ((at1 bound).entry 0).gen ≠ 2) ∧
    ((queued (at1 bound) 0 8 9 [62, 0]).AtHead 0 ⟨8, 9, [62, 0]⟩ [] ∧ ((queued (at1 bound) 0 8 9 [62, 0]).port 0).manage = true ∧
      addrNum 61 = 62 ∧ ((at1 bound).entry 61).bound = false) := by decide +kernel

/-- Unclaimed; held by the asker; held by another, with no wait, a second wait, and a first wait. -/
theorem witness_ClaimDecidedByTheRecord :
    ((queued (at1 bound) 0 5 9 [1, 3, 0, 1, 0, 0]).AtHead 0 ⟨5, 9, [1, 3, 0, 1, 0, 0]⟩ [] ∧ (1 : Byte) = addr8 0 ∧
      bound.bound = true ∧ (3 : Byte) = bound.gen ∧ 1 ≤ ((0 : Byte) ++ (1 : Byte)).toNat ∧ bound.claim = none) ∧
    ((queued (at1 { bound with claim := some claimed }) 1 5 9 [1, 3, 0, 1, 0, 0]).AtHead 1 ⟨5, 9, [1, 3, 0, 1, 0, 0]⟩ [] ∧
      claimed.holder = 1) ∧
    (claimed.holder ≠ 0 ∧ (∃ w ∈ claimed.waits, w.host = 2) ∧ (∀ w ∈ claimed.waits, w.host ≠ 0) ∧
      ((0 : Byte) ++ (0 : Byte)).toNat = 0 ∧ ((0 : Byte) ++ (1 : Byte)).toNat ≠ 0 ∧ claimed.holder ≠ 2) := by decide +kernel

theorem witness_RenewRestartsTheHoldersLease :
    ((queued (at1 { bound with claim := some claimed }) 1 6 9 [1, 3, 0, 1]).AtHead 1 ⟨6, 9, [1, 3, 0, 1]⟩ [] ∧
      claimed.holder = 1 ∧ bound.bound = true ∧ (3 : Byte) = bound.gen ∧ 1 ≤ ((0 : Byte) ++ (1 : Byte)).toNat) ∧
    ((queued (at1 { bound with claim := some claimed }) 0 6 9 [1, 3, 0, 1]).AtHead 0 ⟨6, 9, [1, 3, 0, 1]⟩ [] ∧
      claimed.holder ≠ 0) ∧
    ((queued (at1 bound) 0 6 9 [1, 3, 0, 1]).AtHead 0 ⟨6, 9, [1, 3, 0, 1]⟩ [] ∧ bound.claim = none) := by decide +kernel

theorem witness_ReleaseAndRevokeHandTheClaimOver :
    ((queued (at1 { bound with claim := some claimed }) 1 7 9 [1, 3]).AtHead 1 ⟨7, 9, [1, 3]⟩ [] ∧ claimed.holder = 1 ∧
      (1 : Byte) = addr8 0 ∧ bound.bound = true ∧ (3 : Byte) = bound.gen) ∧
    ((queued (at1 { bound with claim := some claimed }) 0 7 9 [1, 3]).AtHead 0 ⟨7, 9, [1, 3]⟩ [] ∧ claimed.holder ≠ 0) ∧
    (queued (at1 bound) 0 7 9 [1, 3]).AtHead 0 ⟨7, 9, [1, 3]⟩ [] ∧
    ((queued (at1 { bound with claim := some claimed }) 0 8 9 [1, 3]).AtHead 0 ⟨8, 9, [1, 3]⟩ [] ∧
      ((queued (at1 { bound with claim := some claimed }) 0 8 9 [1, 3]).port 0).manage = true) ∧
    (queued (at1 bound) 0 8 9 [1, 3]).AtHead 0 ⟨8, 9, [1, 3]⟩ [] := by decide +kernel

theorem witness_HandoverGrantsTheFirstCurrentWaiter :
    (at1 bound).checkHandle ⟨1, 3⟩ = .current 0 ∧ (∀ b, (at1 bound).checkHandle ⟨1, 2⟩ ≠ .current b) ∧
    (∀ b, (at1 bound).checkHandle ⟨0, 3⟩ ≠ .current b) := by decide +kernel

theorem witness_RepliesAndNoticesArePlaced :
    7 ∈ ((idle.setPort 2 { owed := [7] }).port 2).owed ∧ 7 ∉ (idle.port 2).owed := by decide +kernel

/-- A bad address; register 4096; lengths 0 and 65; an empty WRITE; a stale handle; a claim of another host; a deferred record. -/
theorem witness_LineRequestFailingACheckIsAnswered :
    (∀ b ∈ [[(0 : Byte), 3, 0, 16, 4], [63, 3, 0, 16, 4], [1, 3, 16, 0, 4], [1, 3, 0, 16, 0], [1, 3, 0, 16, 65],
        [1, 2, 0, 16, 4]], (queued (at1 bound) 0 9 9 b).AtHead 0 ⟨9, 9, b⟩ [] ∧ ((queued (at1 bound) 0 9 9 b).port 0).slot = none ∧
        bodyFits 9 b.length = true) ∧
    ((queued (at1 bound) 0 10 9 [1, 3, 0, 16]).AtHead 0 ⟨10, 9, [1, 3, 0, 16]⟩ [] ∧ bodyFits 10 4 = true) ∧
    ((queued (at1 { bound with claim := some claimed }) 0 11 9 [1, 3]).AtHead 0 ⟨11, 9, [1, 3]⟩ [] ∧ bodyFits 11 2 = true ∧
      claimed.holder ≠ 0) ∧
    ((queued (at1 { bound with deferred := some (deferral .due) }) 0 11 9 [1, 3]).AtHead 0 ⟨11, 9, [1, 3]⟩ [] ∧
      ((at1 { bound with deferred := some (deferral .due) }).entry 0).deferred ≠ none) := by decide +kernel

/-- Register 4095 with lengths 1 and 64 of a READ; one byte of a WRITE; a PING; and a slot that is not empty. -/
theorem witness_LineRequestPassingMovesToTheSlot :
    ((queued (at1 bound) 0 9 9 [1, 3, 15, 255, 64]).AtHead 0 ⟨9, 9, [1, 3, 15, 255, 64]⟩ [] ∧
      ((15 : Byte) ++ (255 : Byte)).toNat ≤ 4095 ∧ ((queued (at1 bound) 0 9 9 [1, 3, 15, 255, 64]).port 0).slot = none) ∧
    ((queued (at1 bound) 0 9 9 [1, 3, 0, 0, 1]).AtHead 0 ⟨9, 9, [1, 3, 0, 0, 1]⟩ []) ∧
    ((queued (at1 bound) 0 10 9 [1, 3, 0, 0, 7]).AtHead 0 ⟨10, 9, [1, 3, 0, 0, 7]⟩ []) ∧
    ((queued (at1 bound) 0 11 9 [1, 3]).AtHead 0 ⟨11, 9, [1, 3]⟩ [] ∧ bound.bound = true ∧ bound.claim = none ∧
      bound.deferred = none ∧ (1 : Byte) = addr8 0 ∧ (3 : Byte) = bound.gen) ∧
    ((slotted (queued (at1 bound) 0 11 9 [1, 3]) 0).AtHead 0 ⟨11, 9, [1, 3]⟩ [] ∧
      ((slotted (queued (at1 bound) 0 11 9 [1, 3]) 0).port 0).slot ≠ none) := by decide +kernel

/-- A busy line; no candidate; the system side's turn; a host alone, with a handle that is current, stale, held and deferred. -/
theorem witness_SchedulerChoosesSideAndHost :
    State.reset.lineFree = false ∧ (idle.lineFree = true ∧ idle.systemWaits = false ∧ ∀ h, (idle.port h).candidate = false) ∧
    ({ idle with engine := {} }.engine.state = .waiting ∧ idle.sched.side = .system ∧ { idle with engine := {} }.lineFree = true) ∧
    ((slotted (at1 bound) 0).port 0).slot = some ⟨⟨9, .ping, ⟨1, 3⟩, 0, 0, []⟩, false⟩ ∧
    ((slotted (at1 bound) 0).lineFree = true ∧ (slotted (at1 bound) 0).systemWaits = false) ∧
    (∀ g : HostId, g ≠ 0 → ((slotted (at1 bound) 0).port g).slot = none) ∧
    (addrNum 0 = 1 ∧ ((slotted (at1 bound) 0).entry 0).gen = 3 ∧ ((slotted idle 0).entry 0).bound = false) ∧
    (((slotted (at1 { bound with claim := some claimed }) 0).entry 0).claim.map fun c => c.holder) = some 1 ∧
    ((slotted (at1 { bound with deferred := some (deferral (.timing 5)) }) 0).entry 0).deferred ≠ none := by decide +kernel

/-- The engine WAITING with parked count 1 and 0; a poll due; a pass with an entry to ping. -/
theorem witness_GrantFormsTheTransactionRecord :
    (({ idle with engine := {} }.setParked 1).engine.state = .waiting ∧ ({ idle with engine := {} }.setParked 1).dir.parked ≠ 0 ∧
      idle.dir.parked = 0) ∧
    (idle.engine.state ≠ .waiting ∧ ((at1 { bound with deferred := some (deferral .due) }).entry 0).deferred =
      some (deferral .due) ∧ (deferral .due).phase = .due) ∧
    ({ at1 bound with sweep := { active := true } }.sweep.active = true ∧ (0 : Addr) ≤ 0 ∧ ((at1 bound).entry 0).bound = true ∧
      ∀ a, ((at1 bound).entry a).deferred = none) := by decide +kernel

/-- A gap before attempt 2 of a PING, and a gap with nothing to follow. -/
theorem witness_GapEndBeginsTheNextAttemptOrFreesTheLine :
    let s := inGap (onLine (at1 bound) .idle (txn .ping 1 (.host 0) 1 3))
    (s.inReset = false ∧ s.line.state = .idle ∧ s.line.reset = none ∧ s.line.gap = some 8 ∧
      s.line.record = some (txn .ping 1 (.host 0) 1 3) ∧ Owner.host 0 ≠ .identification) ∧
    ((inGap idle).line.record = none ∧ (inGap idle).line.gap = some 8 ∧
      idle.engine.state ∉ [.unparking, .seeking, .binding, .confirming, .parking]) := by decide +kernel

theorem witness_GapEndWithinARound :
    (∀ st ∈ [EngineState.unparking, .seeking, .binding, .confirming, .parking],
      let s := inGap (round st 0)
      s.inReset = false ∧ s.line.state = .idle ∧ s.line.reset = none ∧ s.line.gap = some 8 ∧ s.line.record = none ∧
        s.engine.state = st ∧ s.engine.ending = none ∧ s.engine.chosen = some 0 ∧
        s.engine.candidate = some 0x112233440317) ∧
    { engine .seeking 0 with ending := some .fouled }.ending = some .fouled := by decide +kernel

theorem witness_TokensLeadToTheirWindows :
    ∀ k ∈ [TxnKind.seek, .unpark, .ping],
      let s := onLine idle .command (txn k 0 .identification 1 1)
      s.inReset = false ∧ s.line.state = .command ∧ s.line.start = .untold ∧ s.line.reset = none ∧
        s.line.record = some (txn k 0 .identification 1 1) := by decide +kernel

/-- A deferral of 2 released bit times, one that begins low after a join pulse, one too short; and a start bit that waits. -/
theorem witness_TokensLeadToTheirWindows_deferral :
    (deferralEnds 0 0 [true, true] && deferralEnds 0 0 [false, true, true] && !deferralEnds 0 0 [true]) = true ∧
    [false, true, true] = List.replicate 1 false ++ [true, true] ∧
    ((onLine idle .command (txn .ping 1 .sweep 1 1)).setStart (.deferred 1)).line.start = .deferred 1 := by decide

/-- Attempts 1 and 3 of 3, with a garbled answer, an absent one and a failed burst of one byte. -/
theorem witness_FailedAttemptsAreRetriedThenDelivered :
    (∀ n ∈ [1, 3],
      let s := onLine (at1 bound) .answerWait (txn .read 1 (.host 0) n 3)
      s.inReset = false ∧ s.line.reset = none ∧ s.line.record = some (txn .read 1 (.host 0) n 3) ∧
        s.line.state = .answerWait) ∧
    (Owner.host 0 ≠ .identification ∧ judgeAnswer (txn .read 1 (.host 0) 1 3) 0 = .garbled ∧
      (txn .read 1 (.host 0) 1 3).window = 24) ∧
    (∀ m ∈ [FailMark.noAnswer, .checkFailed, .burstFailed], { txn .read 1 (.host 0) 3 3 with mark := m }.mark = m) ∧
    ((onLine (at1 bound) .burstIn (txn .read 1 (.host 0) 1 3)).line.state = .burstIn ∧
      [(5 : Byte)].length = ((txn .read 1 (.host 0) 1 3).argument.extractLsb' 0 6).toNat + 1 ∧
      ¬ (false = true ∧ (0 : BitVec 16) = crc16Bytes [5])) := by decide +kernel

/-- OK answers to READ and WRITE, a REJECT and a PING; a correct burst; receipts correct and garbled. -/
theorem witness_AnswersBurstsAndReceiptsAreDelivered :
    (judgeAnswer (txn .read 1 (.host 0) 1 3) (answerBits 1 0 1) = .correct .ok 1 ∧
      judgeAnswer (txn .write 1 (.host 0) 1 3) (answerBits 1 0 1) = .correct .ok 1 ∧
      judgeAnswer (txn .write 1 (.host 0) 1 3) (answerBits 1 2 9) = .correct .reject 9 ∧
      judgeAnswer (txn .ping 1 .sweep 1 3) (answerBits 1 0 0x317) = .correct .ok 0x317) ∧
    (let s := onLine (at1 bound) .answerWait (txn .ping 1 .sweep 1 3)
     s.inReset = false ∧ s.line.reset = none ∧ s.line.record = some (txn .ping 1 .sweep 1 3) ∧ s.line.state = .answerWait) ∧
    [(5 : Byte)].length = ((txn .read 1 (.host 0) 1 3).argument.extractLsb' 0 6).toNat + 1 ∧
    (onLine (at1 bound) .burstOut (txn .write 1 (.host 0) 1 3)).line.state = .burstOut ∧
    (judgeReceipt (txn .write 1 (.host 0) 1 3) (answerBits 1 1 1) = .correct .pend 1 ∧
      judgeReceipt (txn .write 1 (.host 0) 1 3) 0 = .garbled ∧
      (onLine (at1 bound) .receiptWait (txn .write 1 (.host 0) 1 3)).line.state = .receiptWait) := by decide +kernel

theorem witness_HostReceivesTheOutcome :
    ∃ s1 ps, (txn .ping 1 (.host 0) 1 3).owner = .host 0 ∧ addrNum 0 = (txn .ping 1 (.host 0) 1 3).address.toNat ∧
      (txn .ping 1 (.host 0) 1 3).kind ∈ [TxnKind.read, .write, .ping] ∧
      (at1 bound).applyOutcome 0 (.answered .ok 0x317 .command) 1 = (s1, ps) ∧
      (s1.entry 0).uid = some 0x112233440317 ∧ (txn .ping 1 (.host 0) 1 3).replyDropped = false :=
  ⟨_, _, rfl, by decide, by decide, rfl, by decide +kernel, rfl⟩

theorem witness_PollerAndSweepReceiveTheOutcome :
    (∃ s1 ps, addrNum 0 = (txn .status 1 .poller 1 3).address.toNat ∧
      (at1 { bound with deferred := some (deferral .polling) }).applyOutcome 0 (.answered .pend 0 .command) 1 = (s1, ps) ∧
      (s1.entry 0).deferred = some (deferral .polling) ∧ (deferral .polling).polls + 1 < s1.config.pollLimit) ∧
    (∃ s1 ps, addrNum 61 = (txn .ping 62 .sweep 1 3).address.toNat ∧
      ({ idle.setEntry 61 bound with sweep := { active := true, cursor := 61 } } : State).applyOutcome 61 .noAnswer 3 = (s1, ps) ∧
      s1.sweep.active = true) :=
  ⟨⟨_, _, by decide, rfl, by decide +kernel, by decide +kernel⟩, ⟨_, _, by decide, rfl, by decide +kernel⟩⟩

/-- Misses 1 and 3 at the default limit of 3; an unbound entry; quarantine 0. -/
theorem witness_OutcomesCountMisses :
    (idle.entry 0).bound = false ∧ ((at1 bound).entry 0).bound = true ∧
    ((at1 bound).entry 0).miss + 1 < (at1 bound).config.missLimit ∧
    (at1 bound).config.missLimit ≤ { bound with state := .suspect, miss := 2 }.miss + 1 ∧
    (at1 bound).config.quarantine ≠ 0 ∧ { at1 bound with config := { quarantine := 0 } }.config.quarantine = 0 ∧
    bound.uid = some 0x112233440317 := by decide +kernel

theorem witness_ContentionResultLeadsTheRoundOn :
    (let s := onLine (round .seeking 0) .contention (txn .seek 0 .identification 1 1)
     s.inReset = false ∧ s.line.reset = none ∧ s.line.state = .contention ∧
       s.line.record = some (txn .seek 0 .identification 1 1)) ∧
    (5 : Uid) ≠ BitVec.allOnes 48 ∧ (5 : Uid) ≠ 0 ∧ (idle.chooseAddress 5).2.2 = some (0, .newcomer) ∧
    (({ idle with dir := { entries := Vector.replicate 62 bound } } : State).chooseAddress 5).2.2 = none := by decide +kernel

/-- A bound uid, a LOST one, a recalled one; a newcomer with an unreserved address, with a reserved one, with none. -/
theorem witness_AddressChoiceTakesTheFirstStepThatMatches :
    (bound.bound = true ∧ ((at1 bound).entry 0).uid = some 0x112233440317) ∧
    (lost.state = .lost ∧ ((at1 lost).entry 0).uid = some 0x112233440317) ∧
    ((∀ a, ((recalled 5 3).entry a).state = .free) ∧ (recalled 5 3).dir.recalls = [] ++ ⟨5, 3, 0⟩ :: []) ∧
    (∀ x ∈ (recalled 5 3).dir.recalls, x.uid ≠ 6 ∧ x.addr ≠ 0) ∧
    (∀ a, (({ idle with dir := { entries := (Vector.replicate 62 bound).set 61 {}, recalls := [⟨5, 61, 0⟩] } } : State).entry
      a).state = .free → a = 61) ∧
    (∀ a, (({ idle with dir := { entries := Vector.replicate 62 bound } } : State).entry a).state ≠ .free) := by
  decide +kernel

/-- An ASSIGN answered, and the confirming PING after attempts 1 and 3 of 3. -/
theorem witness_BindCompletesOrFails :
    (let t := { txn .assign 63 .identification 1 1 with argument := assignArgument 0 0x317 }
     let s := onLine (round .binding 1) .answerWait t
     s.inReset = false ∧ s.line.reset = none ∧ s.line.state = .answerWait ∧ s.line.record = some t ∧
       t.owner = .identification ∧ s.engine.chosen = some 0 ∧ s.engine.candidate = some 0x112233440317 ∧
       (s.entry 0).uid = some 0x112233440317 ∧ s.engine.state = .binding ∧
       judgeAnswer t (answerBits 1 0 0x4C00) = .correct .ok 0x4C00) ∧
    (∀ n ∈ [1, 3],
      let s := onLine (round .confirming n) .answerWait (txn .ping 1 .identification 1 1)
      s.engine.state = .confirming ∧ s.engine.attempt = n ∧ s.engine.attemptLimit = 3 ∧ s.config.quarantine ≠ 0 ∧
        (s.entry 0).uid = some 0x112233440317) ∧
    judgeAnswer (txn .ping 1 .identification 1 1) (answerBits 1 0 0x317) = .correct .ok 0x317 := by decide +kernel

theorem witness_ParkSucceedsOrFails :
    (∀ n ∈ [1, 3],
      let s := onLine (round .parking n) .answerWait (txn .park 63 .identification 1 1)
      s.inReset = false ∧ s.line.reset = none ∧ s.line.state = .answerWait ∧
        s.line.record = some (txn .park 63 .identification 1 1) ∧ s.engine.state = .parking ∧
        s.engine.candidate = some 0x112233440317 ∧ s.engine.attempt = n ∧ s.engine.attemptLimit = 3) ∧
    judgeAnswer (txn .park 63 .identification 1 1) (answerBits 63 0 0) = .correct .ok 0 := by decide +kernel

/-- A free line; a gap of 560, in which an IDLE line stays; a token that may be deferred; a gap of 8; a line reset. -/
theorem witness_JoinPulseSetsWanted :
    (idle.inReset = false ∧ idle.line.reset = none ∧ idle.line.state = .idle ∧ idle.line.gap = none) ∧
    ({ idle with line := { idle.line with gap := some 560 } }.setWanted.grant.line.state = .idle ∧ 10 ≤ 560) ∧
    ((onLine idle .command (txn .ping 1 .sweep 1 1)).line.start = .untold) ∧ (inGap idle).line.gap = some 8 ∧
    (resetting .wait).line.reset ≠ none := by decide +kernel

/-- The step of the quarantine can be reached at time 0, and cannot at time 51. -/
theorem witness_QuarantineExpiryFreesTheEntry : (at1 lost).Reaches 50 ∧ ¬ { at1 lost with time := 51 }.Reaches 50 ∧
    (at1 lost).inReset = false ∧ ((at1 lost).entry 0).state = .lost ∧ ((at1 lost).entry 0).quarantine = some 50 ∧
    ((at1 lost).entry 0).uid = some 0x112233440317 :=
  ⟨State.expiresNext_iff.1 (by decide +kernel), fun h => absurd (State.expiresNext_iff.2 h) (by decide +kernel),
    by decide +kernel, by decide +kernel, by decide +kernel, by decide +kernel⟩

theorem witness_WaitExpiryAnswersTheWaiter : (at1 { bound with claim := some claimed }).Reaches 60 ∧
    ¬ { at1 { bound with claim := some claimed } with time := 61 }.Reaches 60 ∧
    ((at1 { bound with claim := some claimed }).entry 0).claim = some claimed ∧
    claimed.waits = [] ++ ⟨2, 7, ⟨1, 3⟩, 40, 60⟩ :: [] :=
  ⟨State.expiresNext_iff.1 (by decide +kernel), fun h => absurd (State.expiresNext_iff.2 h) (by decide +kernel),
    by decide +kernel, rfl⟩

/-- Each timer with its step within reach; a lease with a wait that ends earlier, which is not. -/
theorem witness_LeasePollAndSweepTimersExpire :
    ((at1 { bound with claim := some { claimed with expires := 55 } }).expiresNext 55 &&
      !(at1 { bound with claim := some claimed }).expiresNext claimed.expires) = true ∧
    ((at1 { bound with deferred := some (deferral (.timing 9)) }).expiresNext 9 ∧
      ((at1 { bound with deferred := some (deferral (.timing 9)) }).entry 0).deferred = some (deferral (.timing 9))) ∧
    (({ at1 bound with sweep := { timer := some 9 } } : State).expiresNext 9 ∧
      ({ at1 bound with sweep := { timer := some 9 } } : State).sweep.timer = some 9) ∧
    (((at1 bound).entry 0).bound = true ∧ ((at1 bound).entry 0).deferred = none) ∧
    (∀ a, (idle.entry a).bound = false) := by decide +kernel

theorem witness_EnumerateRequestsARound : (queued idle 0 12 9 []).AtHead 0 ⟨12, 9, []⟩ [] := by decide +kernel

/-- Masks 0x01FF and 0x0200, on either side of the nine maskable kinds. -/
theorem witness_SubscribeReplacesTheMask :
    (queued idle 0 13 9 [1, 0xFF]).AtHead 0 ⟨13, 9, [1, 0xFF]⟩ [] ∧ ((1 : Byte) ++ (0xFF : Byte)).toNat < 512 ∧
    (queued idle 0 13 9 [2, 0]).AtHead 0 ⟨13, 9, [2, 0]⟩ [] ∧ 512 ≤ ((2 : Byte) ++ (0 : Byte)).toNat := by decide +kernel

theorem witness_SettingsReportsTheStore : (queued idle 0 14 9 []).AtHead 0 ⟨14, 9, []⟩ [] := by decide +kernel

/-- Every parameter, and values at and beyond the ends of their ranges. -/
theorem witness_ConfigureReplacesOneParameter :
    (∀ b ∈ [[(0 : Byte), 0, 0], [1, 0, 3], [1, 0, 4], [2, 0, 7], [2, 0, 8], [2, 0, 255], [2, 1, 0], [3, 0, 3], [3, 0, 4],
        [5, 0, 0], [5, 0, 19], [5, 0, 20], [5, 0xEA, 0x60], [5, 0xEA, 0x61], [6, 0xEA, 0x60], [7, 0, 0], [7, 0, 1],
        [7, 3, 0xE8], [7, 3, 0xE9], [8, 0, 1], [8, 15, 255], [8, 16, 0], [9, 0, 0]],
      (queued idle 0 15 9 b).AtHead 0 ⟨15, 9, b⟩ [] ∧ ((queued idle 0 15 9 b).port 0).manage = true) := by decide +kernel

/-- Limits 0 and 8, out of range; 1, which reaches an entry with two misses, and 7, which does not. -/
theorem witness_ConfigureMissLimitReachesSuspectEntries :
    (∀ v ∈ [(0 : Byte), 1, 7, 8],
      (queued (at1 { bound with state := .suspect, miss := 2 }) 0 15 9 [4, 0, v]).AtHead 0 ⟨15, 9, [4, 0, v]⟩ []) ∧
    { bound with state := .suspect, miss := 2 }.state = .suspect ∧ 1 ≤ { bound with state := .suspect, miss := 2 }.miss := by
  decide +kernel

theorem witness_LineResetBeginsOrJoins :
    ((queued (at1 bound) 0 16 9 []).AtHead 0 ⟨16, 9, []⟩ [] ∧ ((queued (at1 bound) 0 16 9 []).port 0).manage = true ∧
      (at1 bound).line.reset = none ∧ (at1 bound).dir.recalls.length ≤ 24) ∧
    ((queued (resetting .hold) 0 16 9 []).AtHead 0 ⟨16, 9, []⟩ [] ∧ (resetting .hold).line.reset ≠ none) := by
  decide +kernel

theorem witness_LineResetRunsOnTheLine :
    ∀ p ∈ [ResetPhase.cutPending, .hold, .wait, .token], (resetting p).inReset = false ∧
      (resetting p).line.reset.map (fun lr => lr.phase) = some p := by decide +kernel

/-- A held, empty port beside the others; the hold; a token; the RESET token. -/
theorem witness_PinsFollowTheState :
    (idle.setPort 1 { idle.port 1 with held := true }).HeldPortsEmpty ∧
    (let s := { resetting .hold with line := { (resetting .hold).line with state := .resetHold } }
     s.line.state = .resetHold ∧ s.inReset = false ∧ s.HeldPortsEmpty) ∧
    (onLine idle .command (txn .seek 0 .identification 1 1)).line.state = .command ∧
    ((resetting .token).line.record = none ∧ (resetting .token).line.reset ≠ none) := by decide +kernel

/-- A completed bind moves a generation. -/
theorem witness_GenerationChangesOnlyByABind :
    ∃ t, exec (.answerTokenJudged 1 (answerBits 1 0 0x4C00)) (onLine (round .binding 1) .answerWait
        { txn .assign 63 .identification 1 1 with argument := assignArgument 0 0x317 }) = .next t ∧
      (t.entry 0).gen ≠ ((round .binding 1).entry 0).gen := ⟨_, rfl, by decide +kernel⟩

theorem witness_ParametersChangeOnlyByConfigure :
    ∃ t, exec (.configureRetryLimit 0) (queued idle 0 15 9 [3, 0, 1]) = .next t ∧ t.config ≠ idle.config :=
  ⟨_, rfl, by decide +kernel⟩

/-- The laws of the directory hold with one module bound. -/
theorem bound_meets_the_directory_law : (at1 bound).DirectoryLaw where
  params := by decide +kernel
  entries := by decide +kernel
  uids := by decide +kernel
  round := by simp [at1, idle, bound, State.RoundLaw, State.entry, State.setEntry, State.reset]; decide +kernel
  parked := by decide +kernel
  line := by
    have hs : ∀ h, ((at1 bound).port h).slot = none := by decide +kernel
    have hl : (at1 bound).line = {} := rfl
    have he : (at1 bound).engine.state = .idle ∧ (at1 bound).engine.ending = none := ⟨rfl, rfl⟩
    simp [State.LineLaw, hs, hl, he, EngineState.inRound]
  pass := by decide +kernel

theorem witness_SerialCountsDirectoryChanges : (at1 bound).DirectoryLaw ∧
    ∃ t, exec .joinPulseRecognised (at1 bound) = .next t ∧ t.dir.serial = (at1 bound).dir.serial :=
  ⟨bound_meets_the_directory_law, _, rfl, by decide +kernel⟩

theorem witness_PortAndClaimLawsAreKept : (at1 bound).PortsWf ∧ (at1 bound).HeldPortsEmpty ∧
    (∀ a, ((at1 { bound with claim := some claimed }).entry a).claim.all fun c => decide c.Wf) ∧
    (at1 bound).TimerLaw ∧ ((at1 bound).DirectoryLaw ∧ (at1 bound).ClaimsWf ∧ (at1 bound).OwedLaw) ∧
    (queued (at1 bound) 0 14 9 []).OwedLaw ∧ ∃ t, step (at1 bound) = .next t := by
  refine ⟨by decide +kernel, by decide +kernel, by decide +kernel, fun n c _ => ?_, ⟨bound_meets_the_directory_law, ?_, ?_⟩,
    ?_, _, rfl⟩
  · exact Nat.zero_le n
  · intro a c h
    have : ∀ a, ((at1 bound).entry a).claim = none := by decide +kernel
    simp [this] at h
  · decide +kernel
  · decide +kernel

theorem witness_DirectoryLawIsKept : (at1 bound).DirectoryLaw ∧ ∃ t, step (at1 bound) = .next t :=
  ⟨bound_meets_the_directory_law, _, rfl⟩

theorem witness_NoCandidateWaitsOnAFreeLine : (at1 bound).DirectoryLaw ∧ (at1 bound).NoWaitOnFreeLine ∧
    ∃ t, step (at1 bound) = .next t := ⟨bound_meets_the_directory_law, by decide +kernel, _, rfl⟩

theorem witness_ContentionYieldsTheSmallestUid :
    (5 : Uid) ∈ [(9 : Uid), 5, 12] ∧ (∀ u ∈ [(9 : Uid), 5, 12], (5 : Uid).toNat ≤ u.toNat) ∧ [(9 : Uid), 5, 12].Nodup :=
  ⟨by simp, by simp, by simp⟩

theorem witness_TokensDecodeAsEncoded :
    acceptToken (commandToken 9 7 (accessArgument 16 4)) = some ⟨.read, 9, accessArgument 16 4⟩ := by decide +kernel

end Sys2Proof.Tests
end

section
/-! SUPPORT. The module directory's searches, the directory requests LIST and LOOKUP (Section 1.9) and the choice of an address
(R17 to R20). -/

namespace Sys2Proof.Machine

open Sys2Proof

/-! ### Addresses -/

@[simp] theorem mem_allAddrs (a : Addr) : a ∈ allAddrs := List.mem_finRange a

/-- A search over the addresses finds the lowest one that meets the test. -/
theorem find_allAddrs_eq_some_iff {p : Addr → Bool} {a : Addr} :
    allAddrs.find? p = some a ↔ p a = true ∧ ∀ b, b < a → ¬ p b = true := by
  rw [allAddrs, List.find?_eq_some_iff_getElem]
  refine and_congr_right fun _ => ⟨?_, fun hlow => ⟨a.val, by simp, by simp, fun j hj => ?_⟩⟩
  · rintro ⟨i, hi, rfl, hlow⟩ b hb
    simpa using hlow b.val (by simpa [Fin.lt_def] using hb)
  · simpa using hlow ⟨j, by omega⟩ hj

/-- A number outside 1 to 62 names no address (R5). -/
theorem addrOfNat_eq_none {n : Nat} (hn : ¬ (1 ≤ n ∧ n ≤ 62)) : addrOfNat n = none := dif_neg hn

/-- A number from 1 to 62 names the address that it counts (R5). -/
theorem exists_addrOfNat_eq_some {n : Nat} (hn : 1 ≤ n ∧ n ≤ 62) : ∃ a, addrOfNat n = some a ∧ addrNum a = n :=
  ⟨⟨n - 1, by omega⟩, dif_pos hn, Nat.sub_add_cancel hn.1⟩

/-- The uid field of a body that spells a uid is that uid. -/
theorem bodyUid_bytes48 (code tag : Byte) (u : Uid) : bodyUid { code := code, tag := tag, body := bytes48 u } = u := by
  have join (start len : Nat) :
      u.extractLsb' (start + 8) len ++ u.extractLsb' start 8 = u.extractLsb' start (len + 8) :=
    BitVec.extractLsb'_append_extractLsb'_eq_extractLsb' rfl
  simp only [bodyUid, bodyByte, bytes48, List.getD_cons_zero, List.getD_cons_succ]
  rw [join 32 8, join 24 16, join 16 24, join 8 32, join 0 40]
  exact BitVec.extractLsb'_eq_self

/-! ### A request decided at its take (R154) -/

@[simp] theorem State.setPort_setPort (s : State) (h : HostId) (p q : Port) : (s.setPort h p).setPort h q = s.setPort h q := by
  simp [State.setPort]

@[simp] theorem State.taken_dir (s : State) (h : HostId) (rest : List Request) : (s.taken h rest).dir = s.dir := rfl

@[simp] theorem State.taken_entry (s : State) (h : HostId) (rest : List Request) (a : Addr) :
    (s.taken h rest).entry a = s.entry a := rfl

/-- An answer at the take leaves the request's port with the reply and nothing else changed. -/
theorem State.taken_answer (s : State) (h : HostId) (rest : List Request) (r : Request) (o : ReplyOutcome) (b : ReplyBody) :
    (s.taken h rest).answer h r o b = s.replied h rest
      { tag := r.tag, kind := r.code, outcome := o, qualifier := s.takeQualifier r.code, serial := s.dir.serial, body := b } := by
  simp [State.answer, State.post, State.taken, State.replied, State.takeQualifier]

/-- A request whose body fits passes the shape check. -/
theorem shaped_of_fits {h : HostId} {act : Request → State → State} {r : Request} (hf : bodyFits r.code r.body.length = true)
    (s : State) : shaped h act r s = act r s := if_pos hf

/-! ### Searches of the directory (R17, R22, R24) -/

/-- The entry at `a` is not FREE and holds the uid. -/
abbrev State.HoldsUid (s : State) (u : Uid) (a : Addr) : Prop := (s.entry a).state ≠ .free ∧ (s.entry a).uid = some u

theorem State.holderOf_eq_some_iff {s : State} {u : Uid} {a : Addr} :
    s.holderOf u = some a ↔ s.HoldsUid u a ∧ ∀ b, b < a → ¬ s.HoldsUid u b := by
  simp [State.holderOf, find_allAddrs_eq_some_iff, State.HoldsUid]

theorem State.holderOf_eq_none_iff {s : State} {u : Uid} : s.holderOf u = none ↔ ∀ a, ¬ s.HoldsUid u a := by
  simp [State.holderOf, State.HoldsUid]

theorem State.recallOf_eq_none_iff {s : State} {u : Uid} : s.recallOf u = none ↔ ∀ x ∈ s.dir.recalls, x.uid ≠ u := by
  simp [State.recallOf]

/-- The oldest recall record of the uid is the one found. -/
theorem State.recallOf_eq_some {s : State} {u : Uid} {older newer : List Recall} {x : Recall}
    (hl : s.dir.recalls = older ++ x :: newer) (hx : x.uid = u) (hold : ∀ y ∈ older, y.uid ≠ u) : s.recallOf u = some x := by
  have hnone : older.find? (fun r => r.uid == u) = none := by simpa using hold
  simp [State.recallOf, hl, List.find?_append, hnone, hx]

/-- The oldest recall record of the uid stands one past the records before it. -/
theorem State.recallPosition_eq {s : State} {u : Uid} {older newer : List Recall} {x : Recall}
    (hl : s.dir.recalls = older ++ x :: newer) (hx : x.uid = u) (hold : ∀ y ∈ older, y.uid ≠ u) :
    s.recallPosition u = older.length + 1 := by
  have hidx : older.findIdx (fun r => r.uid == u) = older.length := List.findIdx_eq_length.2 (by simpa using hold)
  simp [State.recallPosition, hl, List.findIdx_append, hidx, List.findIdx_cons, hx]

theorem State.lowestUnreserved_eq_some_iff {s : State} {a : Addr} :
    s.lowestUnreserved = some a ↔ ((s.entry a).state = .free ∧ ∀ x ∈ s.dir.recalls, x.addr ≠ a) ∧
      ∀ b, b < a → (s.entry b).state = .free → ∃ x ∈ s.dir.recalls, x.addr = b := by
  simp [State.lowestUnreserved, find_allAddrs_eq_some_iff, State.reserved]

theorem State.lowestUnreserved_eq_none_iff {s : State} :
    s.lowestUnreserved = none ↔ ∀ a, (s.entry a).state = .free → ∃ x ∈ s.dir.recalls, x.addr = a := by
  simp [State.lowestUnreserved, State.reserved]

theorem State.lowestFree_eq_some_iff {s : State} {a : Addr} :
    s.lowestFree = some a ↔ (s.entry a).state = .free ∧ ∀ b, b < a → ¬ (s.entry b).state = .free := by
  simp [State.lowestFree, find_allAddrs_eq_some_iff]

theorem State.lowestFree_eq_none_iff {s : State} : s.lowestFree = none ↔ ∀ a, ¬ (s.entry a).state = .free := by
  simp [State.lowestFree]

/-! ### LIST (R21) -/

theorem exec_list (h : HostId) (s : State) : exec (.list h) s = execList h s := rfl

/-- A LIST of one body byte is decided by the address that the byte names. -/
theorem execList_of_atHead {h : HostId} {tag b : Byte} {rest : List Request} {s : State}
    (hq : s.AtHead h { code := 0x01, tag := tag, body := [b] } rest) :
    execList h s = .next (listRequest h { code := 0x01, tag := tag, body := [b] } (s.taken h rest)) := by
  rw [execList, takeRequest_of_atHead hq rfl, shaped_of_fits rfl]

/-- The directory record field by field; it is claimed by the asker when the claim's holder is host `h` (R21). -/
theorem State.dirRecord_eq (s : State) (h : HostId) (a : Addr) :
    s.dirRecord h a =
      { addr := a, gen := (s.entry a).gen, state := (s.entry a).state, cls := (s.entry a).cls, uid := (s.entry a).uid.getD 0,
        miss := (s.entry a).miss, claimed := (s.entry a).claim.isSome,
        claimedByAsker := decide ((s.entry a).claim.map (fun c => c.holder) = some h),
        deferredPending := (s.entry a).deferred.isSome } := by
  unfold State.dirRecord
  cases hc : (s.entry a).claim with
  | none => simp [hc]
  | some c => simp [hc, beq_eq_decide]

/-- The records LIST reports stand for the first 8 entries from the starting address that are not FREE. -/
theorem State.listRecords_eq (s : State) (h : HostId) (start : Addr) :
    s.listRecords h start =
      ((allAddrs.filter fun a => (s.entry a).state ≠ .free ∧ addrNum start ≤ addrNum a).take 8).map (s.dirRecord h) := by
  have hle : ∀ a, start ≤ a ↔ addrNum start ≤ addrNum a := fun a => (Nat.add_le_add_iff_right (n := 1)).symm
  unfold State.listRecords State.busyAddrs
  rw [List.filter_filter]
  congr 3
  funext a
  simp [hle, bne, beq_eq_decide, Bool.and_comm]

theorem State.taken_listRecords (s : State) (g h : HostId) (rest : List Request) (start : Addr) :
    (s.taken g rest).listRecords h start = s.listRecords h start := rfl

/-- Settles O15: LIST is INVALID where its byte names no address, and otherwise reports the entries from that address. -/
theorem listReportsEntriesFromAnAddress : Obligations.ListReportsEntriesFromAnAddress := by
  intro h tag b rest s hq
  have hbyte : bodyByte { code := 0x01, tag := tag, body := [b] } 0 = b := rfl
  rw [exec_list, execList_of_atHead hq, listRequest, hbyte]
  refine ⟨fun hout => ?_, fun hin => ?_⟩
  · rw [addrOfNat_eq_none hout]
    exact congrArg _ (s.taken_answer ..)
  · obtain ⟨a, ha, hab⟩ := exists_addrOfNat_eq_some hin
    rw [ha]
    refine congrArg _ ((s.taken_answer ..).trans ?_)
    rw [State.taken_listRecords, State.listRecords_eq, hab, funext (s.dirRecord_eq h)]
    rfl

/-! ### LOOKUP (R22) -/

theorem exec_lookup (h : HostId) (s : State) : exec (.lookup h) s = execLookup h s := rfl

/-- The answer of LOOKUP for a uid: the first case of R22 that matches. -/
def State.lookupAnswer (s : State) (u : Uid) : ReplyOutcome × LookupBody :=
  match s.holderOf u, s.recallOf u with
  | some a, _ => (.done, .entry a (s.entry a).gen (s.entry a).state (s.entry a).cls)
  | none, some x => (.notFound, .recalled x.addr x.gen (s.recallPosition u))
  | none, none => (.notFound, .unknown)

/-- A LOOKUP of a uid leaves the port with the answer for that uid. -/
theorem execLookup_of_atHead {h : HostId} {tag : Byte} {u : Uid} {rest : List Request} {s : State}
    (hq : s.AtHead h { code := 0x02, tag := tag, body := bytes48 u } rest) :
    execLookup h s = .next (s.replied h rest
      { tag := tag, kind := 0x02, outcome := (s.lookupAnswer u).1, qualifier := 0, serial := s.dir.serial,
        body := .lookup (s.lookupAnswer u).2 }) := by
  have hholder : (s.taken h rest).holderOf u = s.holderOf u := rfl
  have hrecall : (s.taken h rest).recallOf u = s.recallOf u := rfl
  rw [execLookup, takeRequest_of_atHead hq rfl, shaped_of_fits rfl, lookupRequest, bodyUid_bytes48, hholder, hrecall]
  unfold State.lookupAnswer
  cases s.holderOf u with
  | some a => exact congrArg _ (s.taken_answer ..)
  | none =>
    cases s.recallOf u with
    | some x => exact congrArg _ (s.taken_answer ..)
    | none => exact congrArg _ (s.taken_answer ..)

/-- Settles O16: the answer is that of the lowest entry holding the uid, else of its oldest recall record, else neither. -/
theorem lookupFindsTheUid : Obligations.LookupFindsTheUid := by
  intro h tag u rest s hq holds
  rw [exec_lookup, execLookup_of_atHead hq, State.lookupAnswer]
  refine ⟨fun a ha hlow => ?_, fun hnone older x newer hl hx hold => ?_, fun hnone hrec => ?_⟩
  · rw [State.holderOf_eq_some_iff.2 ⟨ha, hlow⟩]
  · rw [State.holderOf_eq_none_iff.2 hnone, State.recallOf_eq_some hl hx hold, State.recallPosition_eq hl hx hold]
  · rw [State.holderOf_eq_none_iff.2 hnone, State.recallOf_eq_none_iff.2 hrec]

/-! ### The address choice (R17 to R20) -/

section
variable {s : State} {u : Uid} {a : Addr}

/-- R17 step 1, R18: the PRESENT or SUSPECT entry that holds the uid is retired. -/
theorem State.chooseAddress_of_bound (hh : s.holderOf u = some a) (hb : (s.entry a).bound = true) :
    s.chooseAddress u = ((s.retire a).1, (s.retire a).2, some (a, .restart)) := by
  simp [State.chooseAddress, hh, hb]

/-- R17 step 1, R19: the LOST entry that holds the uid is taken. -/
theorem State.chooseAddress_of_lost (hh : s.holderOf u = some a) (hl : (s.entry a).state = .lost) :
    s.chooseAddress u = (s.takeLost a, [], some (a, .returning)) := by
  simp [State.chooseAddress, hh, Entry.bound, hl]

/-- R17 step 2: the address of the uid's recall record, which the list loses. -/
theorem State.chooseAddress_of_recall {x : Recall} (hh : s.holderOf u = none) (hr : s.recallOf u = some x) :
    s.chooseAddress u =
      ((s.setRecalls (s.dir.recalls.filter fun y => y.uid ≠ u)).takeFree x.addr u, [], some (x.addr, .newcomer)) := by
  simp [State.chooseAddress, hh, hr]

/-- R17 step 3: the lowest FREE address that no recall record names. -/
theorem State.chooseAddress_of_unreserved (hh : s.holderOf u = none) (hr : s.recallOf u = none)
    (hu : s.lowestUnreserved = some a) : s.chooseAddress u = (s.takeFree a u, [], some (a, .newcomer)) := by
  simp [State.chooseAddress, hh, hr, hu]

/-- R17 step 4: the lowest FREE address, whose recall records the list loses. -/
theorem State.chooseAddress_of_reserved (hh : s.holderOf u = none) (hr : s.recallOf u = none)
    (hu : s.lowestUnreserved = none) (hf : s.lowestFree = some a) :
    s.chooseAddress u =
      ((s.setRecalls (s.dir.recalls.filter fun x => x.addr ≠ a)).takeFree a u, [], some (a, .newcomer)) := by
  simp [State.chooseAddress, hh, hr, hu, hf]

/-- R17 step 5: no FREE address, no change. -/
theorem State.chooseAddress_of_full (hh : s.holderOf u = none) (hr : s.recallOf u = none)
    (hu : s.lowestUnreserved = none) (hf : s.lowestFree = none) : s.chooseAddress u = (s, [], none) := by
  simp [State.chooseAddress, hh, hr, hu, hf]

end

/-- A list with one record of the uid, without the records of the uid. -/
theorem filter_uid_ne_of_unique {u : Uid} {older newer : List Recall} {x : Recall} (hx : x.uid = u)
    (hrest : ∀ y ∈ older ++ newer, y.uid ≠ u) : (older ++ x :: newer).filter (fun y => y.uid ≠ u) = older ++ newer := by
  calc (older ++ x :: newer).filter (fun y => y.uid ≠ u)
      = (older ++ newer).filter (fun y => y.uid ≠ u) := by simp [hx]
    _ = older ++ newer := List.filter_eq_self.2 (by simpa using hrest)

/-- Settles O38: each step of R17 by the searches before it finding nothing and its own finding its address. -/
theorem addressChoiceTakesTheFirstStepThatMatches : Obligations.AddressChoiceTakesTheFirstStepThatMatches := by
  intro s u holds free changed newcomer
  refine ⟨fun a ha hlow => ?_, fun hnone => ?_⟩
  · have hholder : s.holderOf u = some a := State.holderOf_eq_some_iff.2 ⟨ha, hlow⟩
    intro e
    refine ⟨fun hb => ?_, fun hl => State.chooseAddress_of_lost hholder hl⟩
    rw [State.chooseAddress_of_bound hholder hb]
    refine congrArg (Prod.mk _) (congrArg (Prod.mk · _) (congrArg (_ ++ · ++ _) ?_))
    show e.deferredAborted .moduleRestarted 0 = _
    unfold Entry.deferredAborted
    rcases e.deferred with _ | ⟨_ | h, _, _, _, _⟩ <;> rfl
  · have hholder : s.holderOf u = none := State.holderOf_eq_none_iff.2 hnone
    refine ⟨fun older x newer hl hx hrest => ?_, fun hrec => ?_⟩
    · have hold : ∀ y ∈ older, y.uid ≠ u := fun y hy => hrest y (List.mem_append_left _ hy)
      have hchoice := State.chooseAddress_of_recall hholder (State.recallOf_eq_some hl hx hold)
      rw [hl, filter_uid_ne_of_unique hx hrest] at hchoice
      exact hchoice
    · have hrecall : s.recallOf u = none := State.recallOf_eq_none_iff.2 hrec
      refine ⟨fun a ha hun hlow => ?_, fun hres => ⟨fun a ha hlow => ?_, fun hfull => ?_⟩⟩
      · exact State.chooseAddress_of_unreserved hholder hrecall (State.lowestUnreserved_eq_some_iff.2 ⟨⟨ha, hun⟩, hlow⟩)
      · exact State.chooseAddress_of_reserved hholder hrecall (State.lowestUnreserved_eq_none_iff.2 hres)
          (State.lowestFree_eq_some_iff.2 ⟨ha, hlow⟩)
      · exact State.chooseAddress_of_full hholder hrecall (State.lowestUnreserved_eq_none_iff.2 hres)
          (State.lowestFree_eq_none_iff.2 hfull)

end Sys2Proof.Machine
end

section
/-! SUPPORT. The reply that the outcome of a host's transaction becomes, and its delivery (R87, R88, R90, R98, R104). -/

namespace Sys2Proof.Machine

open Sys2Proof

/-- The number of an address names that address (R1). -/
@[simp] theorem addrOfNat_addrNum (a : Addr) : addrOfNat (addrNum a) = some a :=
  dif_pos ⟨Nat.le_add_left 1 a.val, a.isLt⟩

/-- Without the deferred mark the qualifier of a line request's reply is the attempts alone (Section 12.3). -/
theorem attemptsQualifier_false (n : Nat) : attemptsQualifier n false = BitVec.ofNat 8 n := BitVec.or_zero

/-! ### The parts of a reply (R98, R106) -/

section
variable {t : Txn}

/-- The three kinds of a host's transaction answer READ, WRITE and PING. -/
theorem Txn.requestCode_eq (hk : t.kind ∈ [TxnKind.read, .write, .ping]) :
    t.requestCode = if t.kind = .read then 0x09 else if t.kind = .write then 0x0A else 0x0B := by
  simp only [List.mem_cons, List.not_mem_nil, or_false] at hk
  unfold Txn.requestCode
  rcases hk with hread | hwrite | hping
  · rw [hread]; rfl
  · rw [hwrite]; rfl
  · rw [hping]; rfl

theorem doneBody_of_read (hk : t.kind = .read) (v : BitVec 16) (uid : Option Uid) : doneBody t v uid = .readData t.buffer := by
  rw [doneBody, hk]

theorem doneBody_of_write (hk : t.kind = .write) (v : BitVec 16) (uid : Option Uid) :
    doneBody t v uid = .written (argLength t.argument) := by
  rw [doneBody, hk]

/-- The match flag compares the value with the low 16 bits of the uid held (R106). -/
theorem doneBody_of_ping (hk : t.kind = .ping) (v : BitVec 16) (u : Uid) :
    doneBody t v (some u) = .pinged v (decide (u.extractLsb' 0 16 = v)) := by
  simp [doneBody, hk, uidLow16, beq_eq_decide]

/-- An entry that holds no uid matches no value (R106). -/
theorem doneBody_of_ping_none (hk : t.kind = .ping) (v : BitVec 16) : doneBody t v none = .pinged v false := by
  rw [doneBody, hk]
  rfl

/-! ### The reply that an outcome becomes (R88) -/

/-- PEND to the command token of a READ or WRITE is BUSY. -/
theorem hostReply_pend_command (hk : t.kind = .read ∨ t.kind = .write) (v : BitVec 16) (uid : Option Uid) :
    hostReply t (.answered .pend v .command) uid = some (.busy, .busy .module) :=
  (if_pos hk).trans (if_neg (by decide))

/-- PEND at the receipt of a WRITE is no reply yet (R104). -/
theorem hostReply_pend_receipt (hk : t.kind = .write) (v : BitVec 16) (uid : Option Uid) :
    hostReply t (.answered .pend v .receipt) uid = none :=
  (if_pos (.inr hk)).trans (if_pos rfl)

/-- REJECT and FAULT, and PEND to a PING, are REFUSED with the status, the value and the point of refusal. -/
theorem hostReply_refused {st : ModStatus} (hst : st = .reject ∨ st = .fault ∨ (st = .pend ∧ t.kind = .ping))
    (v : BitVec 16) (p : RefusePoint) (uid : Option Uid) :
    hostReply t (.answered st v p) uid = some (.refused, .refused st v p) := by
  rcases hst with rfl | rfl | ⟨rfl, hping⟩
  · rfl
  · rfl
  · exact if_neg (by simp [hping])

/-! ### Delivery to a host (R87, R88) -/

variable {s s1 : State} {h : HostId} {a : Addr} {o : TxnOutcome} {ps : List Post}

/-- The entry that a record with the number of address `a` names. -/
theorem Txn.entryAddr_eq_some (ha : addrNum a = t.address.toNat) : t.entryAddr = some a := by
  rw [Txn.entryAddr, ← ha, addrOfNat_addrNum]

theorem State.uidAt_eq (ha : addrNum a = t.address.toNat) (s : State) : s.uidAt t = (s.entry a).uid := by
  rw [State.uidAt, Txn.entryAddr_eq_some ha, Option.bind_some]

theorem State.directoryTakes_eq (ha : addrNum a = t.address.toNat) (s : State) (o : TxnOutcome) :
    s.directoryTakes t o = s.applyOutcome a o t.attempt := by
  rw [State.directoryTakes, Txn.entryAddr_eq_some ha]

theorem State.deliver_of_host (ho : t.owner = .host h) (s : State) (o : TxnOutcome) :
    s.deliver t o = s.deliverHost h t o := by
  rw [State.deliver, ho]

/-- An outcome with a reply: the slot is emptied and the reply, unless dropped, stands before the directory's items. -/
theorem State.deliverHost_of_reply {ro : ReplyOutcome} {b : ReplyBody} (hd : s.directoryTakes t o = (s1, ps))
    (hr : hostReply t o (s1.uidAt t) = some (ro, b)) :
    s.deliverHost h t o = (s1.setSlot h none).endIdlePass.postAll
      ((if t.replyDropped then [] else [.reply h t.tag t.requestCode ro (attemptsQualifier t.attempt false) b]) ++ ps) := by
  simp only [State.deliverHost, hd, hr]

/-- An outcome without a reply: the slot is emptied and the entry named takes a deferred record. -/
theorem State.deliverHost_of_no_reply (hd : s.directoryTakes t o = (s1, ps)) (hr : hostReply t o (s1.uidAt t) = none) :
    s.deliverHost h t o = ((s1.setSlot h none).createDeferred h t).endIdlePass.postAll ps := by
  simp only [State.deliverHost, hd, hr]

/-- The record of a PEND receipt on the entry at `a`, with no owner where the reply is dropped (R90, R104). -/
theorem State.createDeferred_eq (ha : addrNum a = t.address.toNat) (s : State) :
    s.createDeferred h t = s.setEntry a { s.entry a with
      deferred := some (s.newDeferred (if t.replyDropped = true then none else some h) t.tag (argLength t.argument)) } := by
  rw [State.createDeferred, Txn.entryAddr_eq_some ha]

end

/-- Settles O34: R88's table gives the reply, or none for a PEND receipt, and delivery to a host places it. -/
theorem hostReceivesTheOutcome : Obligations.HostReceivesTheOutcome := by
  intro s t h a o s1 ps ho ha hk happ code n freed replies
  have htakes : s.directoryTakes t o = (s1, ps) := (State.directoryTakes_eq ha s o).trans happ
  have hreplies : ∀ ro b, hostReply t o (s1.entry a).uid = some (ro, b) → replies ro b := by
    intro ro b hr
    have hdeliver := (State.deliver_of_host ho s o).trans
      (State.deliverHost_of_reply htakes ((congrArg _ (State.uidAt_eq ha s1)).trans hr))
    rw [Txn.requestCode_eq hk, attemptsQualifier_false] at hdeliver
    refine ⟨fun hkept => ?_, fun hdropped => ?_⟩
    · rw [hkept] at hdeliver
      exact hdeliver
    · rw [hdropped] at hdeliver
      exact hdeliver
  refine ⟨?ok, ?pendCommand, ?pendReceipt, ?refused, ?noAnswer, ?checkFailed, ?burstFailed, ?receiptMissing, ?aborted⟩
  case ok =>
    rintro v p rfl
    have hdone : ∀ b, doneBody t v (s1.entry a).uid = b → replies .done b := fun b hb =>
      hreplies .done b (congrArg (fun body => some (ReplyOutcome.done, body)) hb)
    refine ⟨fun hread => hdone _ (doneBody_of_read hread v _), fun hwrite => hdone _ (doneBody_of_write hwrite v _),
      fun hping => ⟨fun u hu => hdone _ ?_, fun hnone => hdone _ ?_⟩⟩
    · rw [hu, doneBody_of_ping hping]
    · rw [hnone, doneBody_of_ping_none hping]
  case pendCommand =>
    rintro v rfl hping
    exact hreplies _ _ (hostReply_pend_command (by simpa [hping] using hk) v _)
  case pendReceipt =>
    rintro v rfl hwrite
    rw [State.deliver_of_host ho, State.deliverHost_of_no_reply htakes (hostReply_pend_receipt hwrite v _),
      State.createDeferred_eq ha]
    rfl
  case refused =>
    rintro st v p rfl hst
    exact hreplies _ _ (hostReply_refused hst v p _)
  case noAnswer => rintro rfl; exact hreplies _ _ rfl
  case checkFailed => rintro rfl; exact hreplies _ _ rfl
  case burstFailed => rintro rfl; exact hreplies _ _ rfl
  case receiptMissing => rintro j rfl; exact hreplies _ _ rfl
  case aborted => rintro rfl; exact hreplies _ _ rfl

end Sys2Proof.Machine
end

section
/-! SUPPORT. A request that changes its own port at its take, and SUBSCRIBE (R147). -/

namespace Sys2Proof.Machine

open Sys2Proof

/-- An answer after a change of the request's own port joins the port as it was changed. -/
theorem State.setPort_answer (s : State) (h : HostId) (p : Port) (r : Request) (o : ReplyOutcome) (b : ReplyBody) :
    (s.setPort h p).answer h r o b = s.setPort h (p.placeReply
      { tag := r.tag, kind := r.code, outcome := o, qualifier := s.takeQualifier r.code, serial := s.dir.serial, body := b }) := by
  simp [State.answer, State.post, State.takeQualifier]

theorem exec_subscribe (h : HostId) (s : State) : exec (.subscribe h) s = execSubscribe h s := rfl

/-- A SUBSCRIBE of two body bytes is decided by the mask field they spell. -/
theorem execSubscribe_of_atHead {h : HostId} {tag m1 m0 : Byte} {rest : List Request} {s : State}
    (hq : s.AtHead h { code := 0x0D, tag := tag, body := [m1, m0] } rest) :
    execSubscribe h s = .next (subscribeRequest h { code := 0x0D, tag := tag, body := [m1, m0] } (s.taken h rest)) := by
  rw [execSubscribe, takeRequest_of_atHead hq rfl, shaped_of_fits rfl]

section
variable {h : HostId} {r : Request} {s : State}

/-- A mask field with a position beyond the nine maskable kinds leaves the mask as it is. -/
theorem subscribeRequest_of_beyond (hm : 512 ≤ (bodyWord r 0).toNat) :
    subscribeRequest h r s = s.answer h r .invalid .empty := if_neg (Nat.not_lt.2 hm)

/-- A mask field within the nine maskable kinds replaces the mask by its low nine bits. -/
theorem subscribeRequest_of_within (hm : (bodyWord r 0).toNat < 512) :
    subscribeRequest h r s = (s.setPort h { s.port h with mask := (bodyWord r 0).extractLsb' 0 9 }).answer h r .done
      (.masks (s.port h).mask ((bodyWord r 0).extractLsb' 0 9)) := by
  rw [← BitVec.setWidth_eq_extractLsb' (by decide)]
  exact if_pos hm

end

/-- Settles O46: a mask field of 512 or more is INVALID at the take; a smaller one stands in the port before the reply joins. -/
theorem subscribeReplacesTheMask : Obligations.SubscribeReplacesTheMask := by
  intro h tag m1 m0 rest s hq m
  have hfield : bodyWord { code := 0x0D, tag := tag, body := [m1, m0] } 0 = m := rfl
  rw [exec_subscribe, execSubscribe_of_atHead hq]
  refine ⟨fun hbeyond => ?_, fun hwithin => ?_⟩
  · rw [subscribeRequest_of_beyond (hfield ▸ hbeyond)]
    exact congrArg _ (s.taken_answer ..)
  · rw [subscribeRequest_of_within (hfield ▸ hwithin), hfield, State.setPort_answer, State.taken, State.setPort_setPort,
      State.port_setPort_same]
    rfl

end Sys2Proof.Machine
end

section
/-! SUPPORT. SETTINGS (R168): what a take leaves of the settings it reports. -/

namespace Sys2Proof.Machine

open Sys2Proof

@[simp] theorem State.taken_config (s : State) (h : HostId) (rest : List Request) : (s.taken h rest).config = s.config := rfl

@[simp] theorem State.taken_haltedFlag (s : State) (h : HostId) (rest : List Request) :
    (s.taken h rest).haltedFlag = s.haltedFlag := rfl

/-- The permission of the port is no part of its queue (R155). -/
@[simp] theorem State.taken_port_manage (s : State) (h : HostId) (rest : List Request) :
    ((s.taken h rest).port h).manage = (s.port h).manage := by
  rw [State.taken, State.port_setPort_same]

/-- The halted flag is up just while the identification engine is in HALTED. -/
theorem State.haltedFlag_eq (s : State) : s.haltedFlag = decide (s.engine.state = .halted) := beq_eq_decide ..

/-- Only RECALLS has a qualifier other than 0 at its take. -/
theorem State.takeQualifier_of_ne {code : Byte} (hc : code ≠ codeRecalls) (s : State) : s.takeQualifier code = 0 := if_neg hc

theorem exec_settings (h : HostId) (s : State) : exec (.settings h) s = execSettings h s := rfl

/-- A SETTINGS without a body is answered from the state its take leaves. -/
theorem execSettings_of_atHead {h : HostId} {tag : Byte} {rest : List Request} {s : State}
    (hq : s.AtHead h { code := 0x0E, tag := tag, body := [] } rest) :
    execSettings h s = .next ((s.taken h rest).answer h { code := 0x0E, tag := tag, body := [] } .done
      (.settings (s.taken h rest).config ((s.taken h rest).port h).manage (s.taken h rest).haltedFlag)) := by
  rw [execSettings, takeRequest_of_atHead hq rfl, shaped_of_fits rfl]

/-- Settles O47: the take keeps the parameters, the manage flag and the halted flag, so the answer reports those of the state
before it, and an answer at the take leaves only the reply. -/
theorem settingsReportsTheStore : Obligations.SettingsReportsTheStore := by
  intro h tag rest s hq
  rw [exec_settings, execSettings_of_atHead hq, State.taken_config, State.taken_port_manage, State.taken_haltedFlag,
    State.haltedFlag_eq, State.taken_answer, State.takeQualifier_of_ne (code := 0x0E) (by decide)]

end Sys2Proof.Machine
end

section
/-! SUPPORT. What no shared operation touches but those made for it: the commands that wait, the parameters, the time base, the
reset flag and the generations; and what moves the directory serial (R4, R15, R166). -/

namespace Sys2Proof.Machine

set_option Elab.async false

open Sys2Proof

/-! ### Steady and silent changes -/

/-- No waiting command, no parameter, no generation, neither the time base nor the reset flag differs. -/
structure State.Steady (s t : State) : Prop where
  pending : t.pending = s.pending
  config : t.config = s.config
  time : t.time = s.time
  inReset : t.inReset = s.inReset
  gen : ∀ a, (t.entry a).gen = (s.entry a).gen

/-- A steady change that the directory serial does not count (R15). -/
structure State.Silent (s t : State) : Prop extends State.Steady s t where
  counted : t.counted = s.counted
  serial : t.dir.serial = s.dir.serial

theorem State.Steady.refl (s : State) : s.Steady s := ⟨rfl, rfl, rfl, rfl, fun _ => rfl⟩

theorem State.Silent.refl (s : State) : s.Silent s := ⟨.refl s, rfl, rfl⟩

theorem State.Steady.trans {s t u : State} (h : s.Steady t) (k : t.Steady u) : s.Steady u :=
  ⟨k.pending.trans h.pending, k.config.trans h.config, k.time.trans h.time, k.inReset.trans h.inReset,
    fun a => (k.gen a).trans (h.gen a)⟩

theorem State.Silent.trans {s t u : State} (h : s.Silent t) (k : t.Silent u) : s.Silent u :=
  ⟨h.toSteady.trans k.toSteady, k.counted.trans h.counted, k.serial.trans h.serial⟩

/-- A change that leaves the whole directory is silent. -/
theorem State.Silent.of_dir {s t : State} (hd : t.dir = s.dir) (hp : t.pending = s.pending) (hc : t.config = s.config)
    (ht : t.time = s.time) (hr : t.inReset = s.inReset) : s.Silent t where
  pending := hp
  config := hc
  time := ht
  inReset := hr
  gen a := by rw [State.entry, State.entry, hd]
  counted := by simp only [State.counted, State.entry, hd]
  serial := by rw [hd]

/-- What the serial counts is left where every entry keeps its state, uid, class and generation, and the recall list stays. -/
theorem State.counted_eq {s t : State}
    (he : ∀ a, (t.entry a).state = (s.entry a).state ∧ (t.entry a).uid = (s.entry a).uid ∧
      (t.entry a).cls = (s.entry a).cls ∧ (t.entry a).gen = (s.entry a).gen)
    (hr : t.dir.recalls = s.dir.recalls) : t.counted = s.counted := by
  refine Prod.ext (funext fun a => ?_) hr
  obtain ⟨hst, hu, hc, hg⟩ := he a
  simp only [State.counted, hst, hu, hc, hg]

section
variable {s t : State}

/-- An entry written with the state, uid, class and generation it had is a silent change. -/
theorem State.Silent.setEntry (k : s.Silent t) {a : Addr} {e : Entry}
    (hst : e.state = (t.entry a).state := by rfl) (hu : e.uid = (t.entry a).uid := by rfl)
    (hc : e.cls = (t.entry a).cls := by rfl) (hg : e.gen = (t.entry a).gen := by rfl) : s.Silent (t.setEntry a e) :=
  k.trans {
    pending := rfl
    config := rfl
    time := rfl
    inReset := rfl
    gen := fun b => by
      rw [State.entry_setEntry]
      split
      · next hb => rw [hb, hg]
      · rfl
    counted := State.counted_eq (fun b => by
      rw [State.entry_setEntry]
      split
      · next hb => exact hb ▸ ⟨hst, hu, hc, hg⟩
      · exact ⟨rfl, rfl, rfl, rfl⟩) rfl
    serial := rfl }

/-- Entries changed alike in nothing that the serial counts are a silent change. -/
theorem State.Silent.mapEntries (k : s.Silent t) {f : Entry → Entry}
    (hst : ∀ e, (f e).state = e.state := by intro; rfl) (hu : ∀ e, (f e).uid = e.uid := by intro; rfl)
    (hc : ∀ e, (f e).cls = e.cls := by intro; rfl) (hg : ∀ e, (f e).gen = e.gen := by intro; rfl) : s.Silent (t.mapEntries f) :=
  k.trans {
    pending := rfl
    config := rfl
    time := rfl
    inReset := rfl
    gen := fun a => by rw [State.entry_mapEntries, hg]
    counted := State.counted_eq (fun a => by
      rw [State.entry_mapEntries]
      exact ⟨hst _, hu _, hc _, hg _⟩) rfl
    serial := rfl }

/-! ### The silent operations -/

theorem State.Silent.setPort (k : s.Silent t) {h : HostId} {p : Port} : s.Silent (t.setPort h p) :=
  k.trans (.of_dir rfl rfl rfl rfl rfl)

theorem State.Silent.setSlot (k : s.Silent t) {h : HostId} {sl : Option Slot} : s.Silent (t.setSlot h sl) := k.setPort

theorem State.Silent.giveBack (k : s.Silent t) {h : HostId} {bs : List Byte} : s.Silent (t.giveBack h bs) := k.setPort

theorem State.Silent.setHeld (k : s.Silent t) {h : HostId} {b : Bool} : s.Silent (t.setHeld h b) := k.setPort

theorem State.Silent.taken (k : s.Silent t) {h : HostId} {rest : List Request} : s.Silent (t.taken h rest) := k.setPort

theorem State.Silent.post (k : s.Silent t) {p : Post} : s.Silent (t.post p) :=
  k.trans (.of_dir (by simp) (by simp) (by simp) (by simp) (by simp))

theorem State.Silent.postAll (k : s.Silent t) {ps : List Post} : s.Silent (t.postAll ps) :=
  k.trans (.of_dir (by simp) (by simp) (by simp) (by simp) (by simp))

theorem State.Silent.answer (k : s.Silent t) {h : HostId} {r : Request} {o : ReplyOutcome} {b : ReplyBody} :
    s.Silent (t.answer h r o b) := k.post

theorem State.Silent.answerClaim (k : s.Silent t) {h : HostId} {r : Request} {o : ReplyOutcome} {b : ClaimBody} :
    s.Silent (t.answerClaim h r o b) := by
  have hfree : s.Silent (t.useFree r.body.length) := by
    unfold State.useFree
    split
    · exact k.trans (.of_dir rfl rfl rfl rfl rfl)
    · exact k
  exact hfree.answer

theorem State.Silent.modEngine (k : s.Silent t) {f : Engine → Engine} : s.Silent (t.modEngine f) :=
  k.trans (.of_dir rfl rfl rfl rfl rfl)

theorem State.Silent.decideRound (k : s.Silent t) {how : RoundEnd} : s.Silent (t.decideRound how) := k.modEngine

theorem State.Silent.setWanted (k : s.Silent t) : s.Silent t.setWanted := k.trans (.of_dir rfl rfl rfl rfl rfl)

theorem State.Silent.wantIfParked (k : s.Silent t) : s.Silent t.wantIfParked := by
  unfold State.wantIfParked
  split
  · exact k.setWanted
  · exact k

theorem State.Silent.setParked (k : s.Silent t) {n : Nat} : s.Silent (t.setParked n) :=
  k.trans ⟨⟨rfl, rfl, rfl, rfl, fun _ => rfl⟩, rfl, rfl⟩

theorem State.Silent.setSweep (k : s.Silent t) {w : Sweep} : s.Silent { t with sweep := w } :=
  k.trans (.of_dir rfl rfl rfl rfl rfl)

theorem State.Silent.setLine (k : s.Silent t) {l : Line} : s.Silent { t with line := l } :=
  k.trans (.of_dir rfl rfl rfl rfl rfl)

theorem State.Silent.setSched (k : s.Silent t) {c : Scheduler} : s.Silent { t with sched := c } :=
  k.trans (.of_dir rfl rfl rfl rfl rfl)

theorem State.Silent.endIdlePass (k : s.Silent t) : s.Silent t.endIdlePass := by
  unfold State.endIdlePass
  split
  · exact k.setSweep
  · exact k

theorem State.Silent.advanceSweep (k : s.Silent t) {a : Addr} : s.Silent (t.advanceSweep a) := by
  unfold State.advanceSweep
  split
  · split
    · exact k.setSweep
    · exact k.setSweep
  · exact k

theorem State.Silent.toGap (k : s.Silent t) {g : Nat} {x : Option Txn} : s.Silent (t.toGap g x) := k.setLine

theorem State.Silent.toLineState (k : s.Silent t) {l : LineState} : s.Silent (t.toLineState l) := k.setLine

theorem State.Silent.addBits (k : s.Silent t) {n : Nat} : s.Silent (t.addBits n) := k.setLine

theorem State.Silent.setClaim (k : s.Silent t) {a : Addr} {c : Claim} : s.Silent (t.setClaim a c) := k.setEntry

theorem State.Silent.handOver (k : s.Silent t) {a : Addr} {ws : List WaitItem} : s.Silent (t.handOver a ws).1 :=
  k.setEntry

theorem releaseHeld_silent (h : HostId) (acc : State × List Post) (a : Addr) : acc.1.Silent (releaseHeld h acc a).1 := by
  unfold releaseHeld
  split
  · split
    · exact (State.Silent.refl _).handOver
    · exact .refl _
  · exact .refl _

/-- A port reset's handovers, over any addresses. -/
theorem foldl_releaseHeld_silent (h : HostId) (as : List Addr) (acc : State × List Post) :
    acc.1.Silent (as.foldl (releaseHeld h) acc).1 := by
  induction as generalizing acc with
  | nil => exact .refl _
  | cons a as ih => exact (releaseHeld_silent h acc a).trans (ih _)

theorem State.resetClaims_silent (s : State) (h : HostId) : s.Silent (s.resetClaims h).1 :=
  ((State.Silent.refl s).mapEntries (f := fun e => e.dropWaits h)).trans
    (foldl_releaseHeld_silent h allAddrs (s.mapEntries fun e => e.dropWaits h, []))

/-- The state of a port reset before its items: the claims, the deferred records, the line controller, the port (R163). -/
def State.portCleared (s : State) (h : HostId) : State :=
  let s1 := ((s.resetClaims h).1.mapEntries fun e => e.disown h).dropLineReplies h
  s1.setPort h (s1.port h).afterReset

theorem State.resetPort_eq (s : State) (h : HostId) : s.resetPort h = (s.portCleared h).postAll (s.resetClaims h).2 := by
  unfold State.resetPort State.portCleared
  generalize s.resetClaims h = claims
  rfl

theorem State.portCleared_silent (s : State) (h : HostId) : s.Silent (s.portCleared h) := by
  have hclaims := s.resetClaims_silent h
  unfold State.portCleared
  generalize s.resetClaims h = claims at hclaims ⊢
  exact .setPort (.setLine (.mapEntries hclaims))

theorem State.resetPort_silent (s : State) (h : HostId) : s.Silent (s.resetPort h) := by
  rw [State.resetPort_eq]
  exact .postAll (s.portCleared_silent h)

theorem State.cancelled_silent (s : State) (h : HostId) (t : Tag) : s.Silent (s.cancelled h t).1 := by
  unfold State.cancelled
  simp only
  split
  · exact .setPort (.refl s)
  · exact .setPort (.refl s)
  · exact .setPort (.mapEntries (.refl s))
  · exact .refl s
  · exact .refl s
  · exact .refl s

theorem State.Silent.createDeferred (k : s.Silent t) {h : HostId} {x : Txn} : s.Silent (t.createDeferred h x) := by
  unfold State.createDeferred
  split
  · exact k.setEntry
  · exact k

/-! ### Grants are silent -/

theorem State.Silent.beginAttempt (k : s.Silent t) {x : Txn} : s.Silent (t.beginAttempt x) := k.setLine

theorem State.Silent.sendRoundToken (k : s.Silent t) : s.Silent t.sendRoundToken :=
  k.trans (.of_dir (by simp) (by simp) (by simp) (by simp) (by simp))

theorem State.Silent.grantSystem (k : s.Silent t) : s.Silent t.grantSystem := by
  have hstart : s.Silent (t.setSide .host).takeRate := .setLine (.setSched k)
  unfold State.grantSystem
  simp only
  split
  · exact .sendRoundToken (.modEngine hstart)
  · split
    · exact .beginAttempt (.setEntry hstart)
    · split
      · exact .beginAttempt (.setSweep hstart)
      · exact hstart

theorem State.Silent.grantHost (k : s.Silent t) {h : HostId} {a : Addr} {r : LineRequest} : s.Silent (t.grantHost h a r) :=
  .beginAttempt (.setLine (.setSched k.setSlot))

theorem State.Silent.choose (n : Nat) (k : s.Silent t) : s.Silent (State.choose n t) := by
  induction n generalizing t with
  | zero => exact k
  | succ n ih =>
    unfold State.choose
    split
    · next h hnext =>
      have hrot : s.Silent (t.setRotation h) := k.setSched
      split
      · exact k.grantSystem
      · dsimp only
        split
        · split
          · exact hrot.grantHost
          · exact ih (.postAll (.setSlot hrot))
        · exact hrot
    · split
      · exact k.grantSystem
      · exact k

theorem State.Silent.grant (k : s.Silent t) : s.Silent t.grant := by
  unfold State.grant
  split
  · exact k.choose 5
  · exact k

end

end Sys2Proof.Machine
end

section
/-! SUPPORT. What a command that answers a next state has done: one case for each effect, with the tests that its meaning has made
(R153 to R175). Rules over every command are proved by these cases. -/

namespace Sys2Proof.Machine

set_option Elab.async false

open Sys2Proof

/-- What host `h`'s take of request `r`, with `rest` behind it, leaves where it decides at once: `s` is the state without the
request. -/
inductive TakeEffect (s : State) (h : HostId) (r : Request) : State → Prop where
  /-- A reply and nothing else. -/
  | replied (o : ReplyOutcome) (b : ReplyBody) : TakeEffect s h r (s.answer h r o b)
  /-- A reply of the claim unit and nothing else. -/
  | repliedClaim (o : ReplyOutcome) (b : ClaimBody) : TakeEffect s h r (s.answerClaim h r o b)
  /-- FORGET (R24). -/
  | forgot : TakeEffect s h r (forgetRequest h r s).grant
  /-- CLAIM of an unclaimed entry (R122). -/
  | claimed (a : Addr) (lease : Nat) (o : ReplyOutcome) (b : ClaimBody) (hb : (s.entry a).bound = true)
      (hn : (s.entry a).claim = none) :
      TakeEffect s h r ((s.setClaim a { holder := h, expires := s.time + lease, waits := [] }).answerClaim h r o b)
  /-- RENEW or CLAIM by the holder (R122, R125). -/
  | renewed (a : Addr) (c : Claim) (lease : Nat) (o : ReplyOutcome) (b : ClaimBody) (hb : (s.entry a).bound = true)
      (hc : (s.entry a).claim = some c) :
      TakeEffect s h r ((s.setClaim a { c with expires := s.time + lease }).answerClaim h r o b)
  /-- CLAIM that waits (R123). -/
  | waits (a : Addr) (c : Claim) (hb : (s.entry a).bound = true) (hc : (s.entry a).claim = some c) (hh : c.holder ≠ h)
      (hw : ∀ w ∈ c.waits, w.host ≠ h) : TakeEffect s h r (s.setClaim a { c with waits := c.waits ++ [s.waitItem h r] })
  /-- RELEASE or REVOKE (R126, R127). -/
  | handedOver (a : Addr) (c : Claim) (o : ReplyOutcome) (b : ClaimBody) (ps : List Post) (hb : (s.entry a).bound = true)
      (hc : (s.entry a).claim = some c) (hp : ps = [] ∨ ∃ n, ps = [.noticeTo c.holder n]) :
      TakeEffect s h r (((s.handOver a c.waits).1.answerClaim h r o b).postAll (ps ++ (s.handOver a c.waits).2.1))
  /-- READ, WRITE or PING that passes its checks (R96). -/
  | slotted (k : LineKind) (hs : (s.port h).slot = none) :
      TakeEffect s h r (s.setSlot h (some ⟨lineRequestOf k r, false⟩)).grant
  /-- ENUMERATE (R66). -/
  | enumerated (o : ReplyOutcome) (b : ReplyBody) : TakeEffect s h r (s.enumerated.answer h r o b).grant
  /-- SUBSCRIBE (R147). -/
  | subscribed (m : BitVec 9) (o : ReplyOutcome) (b : ReplyBody) :
      TakeEffect s h r ((s.setPort h { s.port h with mask := m }).answer h r o b)
  /-- LINE_RESET (R172). -/
  | lineReset : TakeEffect s h r (s.requestLineReset h r.tag)

/-- What a CONFIGURE that is in range makes of the state before its reply (R167). -/
inductive Configured (s : State) : State → Prop where
  | store (f : Params → Params) (hf : s.config.Wf → (f s.config).Wf) (hm : (f s.config).missLimit = s.config.missLimit) :
      Configured s (s.modConfig f)
  | sweep (v : Nat) (hv : v = 0 ∨ (20 ≤ v ∧ v ≤ 60000)) :
      Configured s ((s.modConfig fun p => { p with sweepInterval := v }).retimeSweep v)
  | missLimit (v : Nat) (hv : 1 ≤ v ∧ v ≤ 7) : Configured s ((s.modConfig fun p => { p with missLimit := v }).applyMissLimit v)

/-- What an exchange with port `h` leaves before the bytes it gives back (R153, R158, R161, R163). -/
inductive ExchangeEffect (s : State) (h : HostId) : State → Prop where
  | nothing : ExchangeEffect s h s
  | accepted (r : Request) (ho : (s.port h).owed.length < 8) (hs : (s.port h).outbound.length + (s.port h).owed.length < 24)
      (ht : r.tag ∉ (s.port h).owed) : ExchangeEffect s h (s.setPort h ((s.port h).accept r))
  | fetched (i : Item) (rest : List Item) (ho : (s.port h).outbound = i :: rest) :
      ExchangeEffect s h (s.setPort h ((s.port h).fetched s.dir.serial rest))
  | cancelled (t : Tag) : ExchangeEffect s h (s.cancelled h t).1
  | portReset : ExchangeEffect s h (s.resetPort h)

/-- What an event of the line leaves of the transaction in progress `t` (R79 to R86). -/
inductive TxnEffect (s : State) (t : Txn) : State → Prop where
  | tokenEnded (hl : s.line.state = .command) : TxnEffect s t (s.tokenEnd t)
  | receipt (j : Judgement) (hl : s.line.state = .receiptWait) : TxnEffect s t (s.receiptIs t j)
  | failed (hl : s.line.state = .burstIn) : TxnEffect s t (s.attemptFails t .burstFailed Config.gapBits)
  | burst (data : List Byte) (ok : Bool) (hl : s.line.state = .burstIn) : TxnEffect s t (s.burstJudged t data ok)
  | burstSent (hl : s.line.state = .burstOut) : TxnEffect s t (s.toLineState .receiptWait)
  | contention (u : Uid) (hl : s.line.state = .contention) : TxnEffect s t (s.takeContention u)

/-- What the end of a phase of the line reset `lr` leaves (R171). -/
inductive ResetEffect (s : State) (lr : LineReset) : State → Prop where
  | cut (hp : lr.phase = .cutPending) : ResetEffect s lr (s.cut lr)
  | held (n : Nat) (hp : lr.phase = .hold) : ResetEffect s lr ((s.setResetPhase lr .wait).addBits n)
  | waited (n : Nat) (hp : lr.phase = .wait) : ResetEffect s lr (((s.setResetPhase lr .token).toLineState .command).addBits n)
  | sent (hp : lr.phase = .token) : ResetEffect s lr (s.resetSent lr)

/-- What the expiry of a timer leaves; `s` is the state at the timer's step (R175). -/
inductive ExpiryEffect (s : State) : State → Prop where
  | quarantine (a : Addr) (hl : (s.entry a).state = .lost) : ExpiryEffect s (s.leaveQuarantine a)
  | lease (a : Addr) : ExpiryEffect s (s.endLease a)
  | wait (a : Addr) (h : HostId) : ExpiryEffect s (s.endWait a h)
  | poll (a : Addr) : ExpiryEffect s (s.pollDueAt a)
  | sweep : ExpiryEffect s s.sweepDue

/-- What a command leaves of the state `s`. -/
inductive Event (s : State) : Instr → State → Prop where
  /-- An event that the controller ignores. -/
  | ignored (c : Instr) : Event s c s
  | resetAsserted (c : Instr) : Event s c { s with inReset := true }
  | resetEnded (straps : BitVec 4) (hr : s.inReset = true) :
      Event s (.powerOnResetEnd straps) ((s.powerOn straps).beginLineReset .powerOn [])
  | exchanged (c : Instr) {h : HostId} {t : State} (bytes : List Byte) (hr : s.inReset = false) (hh : (s.port h).held = false)
      (hx : ExchangeEffect s h t) : Event s c (t.giveBack h bytes)
  | pinFell (c : Instr) (h : HostId) (hr : s.inReset = true) : Event s c (s.setHeld h true)
  | portFell (c : Instr) (h : HostId) (hr : s.inReset = false) (hh : (s.port h).held = false) :
      Event s c (((s.resetPort h).giveBack h []).setHeld h true)
  | pinRose (c : Instr) (h : HostId) : Event s c (s.setHeld h false)
  | took (c : Instr) {h : HostId} {r : Request} {rest : List Request} {t : State} (hq : s.AtHead h r rest)
      (hx : TakeEffect (s.taken h rest) h r t) : Event s c t
  | configured {h : HostId} {r : Request} {rest : List Request} {t : State} (o : ReplyOutcome) (b : ReplyBody)
      (hq : s.AtHead h r rest) (hc : r.code = 0x0F) (hm : (s.port h).manage = true) (hx : Configured (s.taken h rest) t) :
      Event s (takeOf h r) (t.answer h r o b)
  | resetting (c : Instr) {lr : LineReset} {t : State} (hr : s.inReset = false) (hl : s.line.reset = some lr)
      (hx : ResetEffect s lr t) : Event s c t
  | gapEnded (c : Instr) (g : Nat) (hr : s.inReset = false) (hg : s.line.gap = some g) (hl : s.line.state = .idle)
      (hn : s.line.reset = none) : Event s c (s.endGap g).gapEnd
  | startSent (c : Instr) (n : Nat) : Event s c ((s.setStart .sent).addBits n)
  | onLine (c : Instr) {x : Txn} {t : State} (n : Nat) (hr : s.inReset = false) (hc : s.cutPending = false)
      (hx : s.line.record = some x) (he : TxnEffect (s.addBits n) x t) : Event s c t
  | answerMissed (c : Instr) {x : Txn} (n : Nat) (hr : s.inReset = false) (hc : s.cutPending = false)
      (hx : s.line.record = some x) (hl : s.line.state = .answerWait) : Event s c ((s.addBits n).answerJudged x .absent)
  | answerCame (k : Nat) (bits : BitVec 34) {x : Txn} (n : Nat) (hr : s.inReset = false) (hc : s.cutPending = false)
      (hx : s.line.record = some x) (hl : s.line.state = .answerWait ∨ s.line.state = .answer) :
      Event s (.answerTokenJudged k bits) ((s.addBits n).answerJudged x (judgeAnswer x bits))
  | joinReported (c : Instr) (hr : s.inReset = false) (hj : s.recognisesJoin = true) : Event s c s.reportJoin
  | expired (c : Instr) {n : Nat} {t : State} (hr : s.inReset = false) (hn : s.Reaches n) (hx : ExpiryEffect (s.elapseTo n) t) :
      Event s c t

/-! ### The takes -/

section
variable {h : HostId} {r : Request} {s : State}

theorem TakeEffect.of_shaped {act : Request → State → State} (hx : bodyFits r.code r.body.length = true → TakeEffect s h r (act r s)) :
    TakeEffect s h r (shaped h act r s) := by
  unfold shaped
  split
  · exact hx ‹_›
  · exact .replied _ _

theorem TakeEffect.of_managing {act : Request → State → State} (hx : TakeEffect s h r (act r s)) :
    TakeEffect s h r (managing h act r s) := by
  unfold managing
  split
  · exact hx
  · exact .replied _ _

theorem TakeEffect.of_shapedClaim {act : Request → State → State} (hx : TakeEffect s h r (act r s)) :
    TakeEffect s h r (shapedClaim h act r s) := by
  unfold shapedClaim
  split
  · exact hx
  · exact .repliedClaim _ _

theorem TakeEffect.of_managingClaim {act : Request → State → State} (hx : TakeEffect s h r (act r s)) :
    TakeEffect s h r (managingClaim h act r s) := by
  unfold managingClaim
  split
  · exact hx
  · exact .repliedClaim _ _

/-- A handle that is current names a PRESENT or SUSPECT entry at its generation (R5). -/
theorem State.checkHandle_current {s : State} {hd : Handle} {a : Addr} (hc : s.checkHandle hd = .current a) :
    addrOfNat hd.addr.toNat = some a ∧ (s.entry a).bound = true ∧ (s.entry a).gen = hd.gen := by
  unfold State.checkHandle at hc
  split at hc
  · cases hc
  · split at hc
    · next hcur =>
      cases hc
      simp only [Bool.and_eq_true, beq_iff_eq] at hcur
      exact ⟨‹_›, hcur⟩
    · cases hc

theorem TakeEffect.of_claimChecked {argsOk : Request → Bool} {act : Addr → Request → State → State}
    (hx : ∀ a, (s.entry a).bound = true → TakeEffect s h r (act a r s)) : TakeEffect s h r (claimChecked h argsOk act r s) := by
  unfold claimChecked
  split
  · exact .repliedClaim _ _
  · split
    · exact .repliedClaim _ _
    · exact .repliedClaim _ _
  · next a hc =>
    split
    · exact hx a (State.checkHandle_current hc).2.1
    · exact .repliedClaim _ _

theorem TakeEffect.of_claimRequest (a : Addr) (hb : (s.entry a).bound = true) : TakeEffect s h r (claimRequest h a r s) := by
  unfold claimRequest
  split
  · exact .claimed a _ _ _ hb ‹_›
  · next c hc =>
    split
    · exact .renewed a c _ _ _ hb hc
    · unfold claimHeld
      split
      · exact .repliedClaim _ _
      · split
        · exact .repliedClaim _ _
        · next hw => exact .waits a c hb hc ‹_› (by simpa using hw)

theorem TakeEffect.of_renewRequest (a : Addr) (hb : (s.entry a).bound = true) : TakeEffect s h r (renewRequest h a r s) := by
  unfold renewRequest
  split
  · split
    · exact .renewed a _ _ _ _ hb ‹_›
    · exact .repliedClaim _ _
  · exact .repliedClaim _ _

theorem TakeEffect.of_releaseRequest (a : Addr) (hb : (s.entry a).bound = true) : TakeEffect s h r (releaseRequest h a r s) := by
  unfold releaseRequest
  split
  · next c hc =>
    split
    · exact .handedOver a c _ _ [] hb hc (.inl rfl)
    · exact .repliedClaim _ _
  · exact .repliedClaim _ _

theorem TakeEffect.of_revokeRequest (a : Addr) (hb : (s.entry a).bound = true) : TakeEffect s h r (revokeRequest h a r s) := by
  unfold revokeRequest
  split
  · next c hc =>
    refine .handedOver a c _ _ _ hb hc (.inr ⟨.claimRevoked a (s.entry a).gen .revoked, ?_⟩)
    rw [Entry.holderRevoked, hc]
  · exact .repliedClaim _ _

theorem TakeEffect.of_subscribeRequest : TakeEffect s h r (subscribeRequest h r s) := by
  unfold subscribeRequest
  simp only
  split
  · exact .subscribed _ _ _
  · exact .replied _ _

theorem TakeEffect.of_listRequest : TakeEffect s h r (listRequest h r s) := by
  unfold listRequest
  split
  · exact .replied _ _
  · exact .replied _ _

theorem TakeEffect.of_lookupRequest : TakeEffect s h r (lookupRequest h r s) := by
  unfold lookupRequest
  split
  · exact .replied _ _
  · split
    · exact .replied _ _
    · exact .replied _ _

theorem TakeEffect.of_recallsRequest : TakeEffect s h r (recallsRequest h r s) := by
  unfold recallsRequest
  simp only
  split
  · exact .replied _ _
  · exact .replied _ _

/-- A line request that fails a check is answered as any request (R94, R98). -/
theorem postAll_refusedAccess {k : LineKind} {c : AccessCheck} (hk : r.code = lineKindCode k) (hp : ∀ a, c ≠ .pass a) :
    ∃ o b, s.postAll (refusedAccess h r.tag k c) = s.answer h r o b := by
  have hcode : r.code ≠ codeRecalls := by rw [hk]; cases k <;> decide
  have hquiet : s.takeQualifier r.code = attemptsQualifier 0 false := State.takeQualifier_of_ne hcode s
  cases c with
  | pass a => exact absurd rfl (hp a)
  | stale => exact ⟨.stale, .empty, by rw [State.answer, hquiet, hk]; rfl⟩
  | held holder => exact ⟨.held, .heldBy holder, by rw [State.answer, hquiet, hk]; rfl⟩
  | deferred => exact ⟨.busy, .busy .deferred, by rw [State.answer, hquiet, hk]; rfl⟩

theorem TakeEffect.of_lineRequestTaken {k : LineKind} (hk : r.code = lineKindCode k) (hs : (s.port h).slot = none) :
    TakeEffect s h r (lineRequestTaken h k r s) := by
  unfold lineRequestTaken
  split
  · exact .replied _ _
  · split
    · exact .slotted k hs
    · next hc =>
      obtain ⟨o, b, he⟩ := postAll_refusedAccess (s := s) (h := h) hk hc
      rw [he]
      exact .replied o b

end

/-- A take that answers a next state has the effect that its request has without it in the queue. -/
theorem Event.of_take {c : Instr} {h : HostId} {names : Request → Bool} {act : Request → State → State} {s t : State}
    (hx : ∀ r rest, s.AtHead h r rest → names r = true → TakeEffect (s.taken h rest) h r (act r (s.taken h rest)))
    (ht : takeRequest h names act s = .next t) : Event s c t := by
  obtain ⟨r, rest, hq, hn, rfl⟩ := takeRequest_next ht
  exact .took c hq (hx r rest hq hn)

/-- READ, WRITE and PING wait at an occupied slot and are else decided. -/
theorem Event.of_takeLineRequest {c : Instr} {h : HostId} {k : LineKind} {s t : State} (ht : takeLineRequest h k s = .next t) :
    Event s c t := by
  unfold takeLineRequest at ht
  split at ht
  · cases ht
    exact .ignored c
  · next hfree =>
    refine .of_take (fun r rest hq hn => .of_shaped fun _ => ?_) ht
    have hk : r.code = lineKindCode k := by simpa using hn
    have hslot : (s.port h).slot = none := by
      simpa [hq.1, hq.2, hk] using hfree
    exact .of_lineRequestTaken hk (by rw [State.taken, State.port_setPort_same]; exact hslot)

/-- The command that takes a CONFIGURE of the parameter `p`. -/
def configureOf (h : HostId) (p : Byte) : Instr :=
  match p.toNat with
  | 1 => .configureLineRate h | 2 => .configureAnswerWindow h | 3 => .configureRetryLimit h
  | 4 => .configureMissLimit h | 5 => .configureSweepInterval h | 6 => .configureQuarantine h
  | 7 => .configurePollInterval h | 8 => .configurePollLimit h | _ => .configureUnknownParameter h

theorem takeOf_configure {r : Request} {p : Byte} (h : HostId) (hc : r.code = codeConfigure) (hp : r.body.head? = some p) :
    takeOf h r = configureOf h p := by
  have hcode : r.code.toNat = 15 := by rw [hc]; rfl
  simp only [takeOf, hcode, hp, Option.map_some, configureOf]
  split <;> simp_all

/-- A CONFIGURE of one parameter stores the value where it is in range. -/
theorem Event.of_takeConfigure {h : HostId} {p : Byte} {inRange : Nat → Bool} {before : Params → Nat} {set : Nat → State → State}
    {s t : State} (hx : ∀ v u, inRange v = true → Configured u (set v u)) (ht : takeConfigure h p inRange before set s = .next t) :
    Event s (configureOf h p) t := by
  obtain ⟨r, rest, hq, hn, rfl⟩ := takeRequest_next ht
  simp only [configures, Bool.and_eq_true, beq_iff_eq] at hn
  obtain ⟨hcode, hp⟩ := hn
  unfold shaped
  split
  · unfold managing
    split
    · next hm =>
      simp only [configure]
      split
      · next hin =>
        rw [← takeOf_configure h hcode hp]
        exact .configured _ _ hq hcode (by simpa using hm) (hx _ _ hin)
      · exact .took _ hq (.replied _ _)
    · exact .took _ hq (.replied _ _)
  · exact .took _ hq (.replied _ _)

/-! ### The exchanges -/

theorem State.takesExchanges_iff {s : State} {h : HostId} : s.takesExchanges h = true ↔ s.inReset = false ∧ (s.port h).held = false := by
  simp [State.takesExchanges]

/-- An exchange that a port takes gives its bytes back; one that it does not take is ignored. -/
theorem Event.of_exchange {c : Instr} {h : HostId} {s u t : State} {bytes : List Byte} (hx : ExchangeEffect s h u)
    (ht : exchange h s (u.giveBack h bytes) = .next t) : Event s c t := by
  rw [exchange_eq] at ht
  cases ht
  split
  · next htakes =>
    obtain ⟨hr, hh⟩ := State.takesExchanges_iff.1 htakes
    exact .exchanged c bytes hr hh hx
  · exact .ignored c

/-- A REQUEST is accepted only below both limits and with a tag that is not owed (R153). -/
theorem Port.requestCode_accepted {p : Port} {code tag check : Byte} {body : List Byte}
    (hx : p.requestCode code tag body check = xAccepted) :
    p.owed.length < 8 ∧ p.outbound.length + p.owed.length < 24 ∧ tag ∉ p.owed := by
  unfold Port.requestCode at hx
  split at hx
  · exact absurd hx (by decide)
  · split at hx
    · exact absurd hx (by decide)
    · next hfull =>
      split at hx
      · exact absurd hx (by decide)
      · next htag =>
        simp only [Config.owedCapacity, Config.outboundCapacity, not_or, Nat.not_le] at hfull
        exact ⟨hfull.1, hfull.2, htag⟩

theorem Event.of_request {h : HostId} {code tag check : Byte} {body : List Byte} {s t : State} (c : Instr)
    (ht : execRequest h code tag body check s = .next t) : Event s c t := by
  unfold execRequest at ht
  simp only at ht
  split at ht
  · next hacc =>
    obtain ⟨ho, hsum, htag⟩ := Port.requestCode_accepted hacc
    exact .of_exchange (.accepted ⟨code, tag, body⟩ ho hsum htag) ht
  · exact .of_exchange .nothing ht

theorem Event.of_fetch {h : HostId} {began : Bool} {s t : State} (c : Instr) (ht : execFetch h began s = .next t) :
    Event s c t := by
  unfold execFetch at ht
  split at ht
  · exact .of_exchange .nothing ht
  · next i rest ho =>
    split at ht
    · exact .of_exchange .nothing ht
    · exact .of_exchange (.fetched i rest ho) ht

theorem Event.of_cancel {h : HostId} {tag check : Byte} {s t : State} (c : Instr) (ht : execCancel h tag check s = .next t) :
    Event s c t := by
  unfold execCancel at ht
  split at ht
  · exact .of_exchange .nothing ht
  · have hx : ExchangeEffect s h (s.cancelled h tag).1 := .cancelled tag
    rcases hout : s.cancelled h tag with ⟨u, x⟩
    rw [hout] at hx ht
    exact .of_exchange hx ht

theorem Event.of_unknownExchange {h : HostId} {first : Byte} {s t : State} (c : Instr)
    (ht : execUnknownExchange h first s = .next t) : Event s c t := by
  unfold execUnknownExchange at ht
  split at ht
  · cases ht
  · exact .of_exchange .nothing ht

theorem Event.of_hrstnFall {h : HostId} {s t : State} (c : Instr) (ht : execHrstnFall h s = .next t) : Event s c t := by
  unfold execHrstnFall at ht
  split at ht
  · cases ht
  · next hheld =>
    split at ht
    · next hr =>
      cases ht
      exact .pinFell c h hr
    · next hr =>
      obtain rfl := Host.Outcome.next.inj ht
      exact .portFell c h (by simpa using hr) (by simpa using hheld)

theorem Event.of_hrstnRise {h : HostId} {s t : State} (c : Instr) (ht : execHrstnRise h s = .next t) : Event s c t := by
  unfold execHrstnRise at ht
  split at ht
  · cases ht
    exact .pinRose c h
  · cases ht

/-! ### The line -/

/-- An event of a line reset in the phase that it ends. -/
theorem Event.of_reset {c : Instr} {s t : State} {p : ResetPhase} {act : LineReset → State} (hr : s.inReset = false)
    (hx : ∀ lr, lr.phase = p → ResetEffect s lr (act lr))
    (ht : (match s.line.reset with
      | some lr => if lr.phase = p then Host.Outcome.next (act lr) else .refused .lineNotInThatState
      | none => .refused .lineNotInThatState) = (Host.Outcome.next t : Result)) : Event s c t := by
  split at ht
  · next lr hl =>
    split at ht
    · next hp =>
      cases ht
      exact .resetting c hr hl (hx lr hp)
    · cases ht
  · cases ht

theorem Event.of_resetWaitEnd {n : Nat} {s t : State} (c : Instr) (ht : execResetWaitEnd n s = .next t) : Event s c t := by
  obtain ⟨hr, ht⟩ := running_next ht
  split at ht
  · cases ht
  · exact .of_reset hr (fun _ hp => .waited n hp) ht

theorem Event.of_lineGapEnd {s t : State} (c : Instr) (ht : execLineGapEnd s = .next t) : Event s c t := by
  obtain ⟨hr, ht⟩ := running_next ht
  split at ht
  · next g hg =>
    split at ht
    · next hl =>
      cases ht
      exact .gapEnded c g hr hg hl.1 hl.2
    · cases ht
  · cases ht

theorem Event.of_startBitDeferralEnd {levels : List Bool} {s t : State} (c : Instr)
    (ht : execStartBitDeferralEnd levels s = .next t) : Event s c t := by
  obtain ⟨-, ht⟩ := running_next ht
  split at ht
  · cases ht
  · split at ht
    · cases ht
    · cases ht
      exact .startSent c _

theorem Event.of_commandTokenEnd {s t : State} (c : Instr) (ht : execCommandTokenEnd s = .next t) : Event s c t := by
  obtain ⟨hr, hc, hl, x, hx, ht⟩ := onTxn_next ht
  split at ht
  · cases ht
  · cases ht
    exact .onLine c _ hr hc hx (.tokenEnded (of_decide_eq_true hl))

theorem Event.of_answerWindowExpiry {s t : State} (c : Instr) (ht : execAnswerWindowExpiry s = .next t) : Event s c t := by
  obtain ⟨hr, hc, hl, x, hx, ht⟩ := onTxn_next ht
  split at ht
  · next hrec =>
    cases ht
    exact .onLine c _ hr hc hx (.receipt .absent hrec)
  · next hrec =>
    cases ht
    exact .answerMissed c _ hr hc hx (by simpa [hrec] using hl)

theorem Event.of_answerTokenJudged {k : Nat} {bits : BitVec 34} {s t : State} (ht : execAnswerTokenJudged k bits s = .next t) :
    Event s (.answerTokenJudged k bits) t := by
  obtain ⟨hr, hc, hl, x, hx, ht⟩ := onTxn_next ht
  obtain ⟨-, -, ht⟩ := inWindow_next ht
  cases ht
  exact .answerCame k bits _ hr hc hx (by simpa using hl)

theorem Event.of_burstWindowExpiry {s t : State} (c : Instr) (ht : execBurstWindowExpiry s = .next t) : Event s c t := by
  obtain ⟨hr, hc, hl, x, hx, ht⟩ := onTxn_next ht
  cases ht
  exact .onLine c _ hr hc hx (.failed (of_decide_eq_true hl))

theorem Event.of_readBurstJudged {k : Nat} {data : List Byte} {crc : BitVec 16} {endBit : Bool} {s t : State} (c : Instr)
    (ht : execReadBurstJudged k data crc endBit s = .next t) : Event s c t := by
  obtain ⟨hr, hc, hl, x, hx, ht⟩ := onTxn_next ht
  obtain ⟨-, -, ht⟩ := inWindow_next ht
  split at ht
  · cases ht
  · cases ht
    exact .onLine c _ hr hc hx (.burst data _ (of_decide_eq_true hl))

theorem Event.of_writeBurstEnd {s t : State} (c : Instr) (ht : execWriteBurstEnd s = .next t) : Event s c t := by
  obtain ⟨hr, hc, hl, x, hx, ht⟩ := onTxn_next ht
  cases ht
  exact .onLine c _ hr hc hx (.burstSent (of_decide_eq_true hl))

theorem Event.of_receiptJudged {receipt : Option (Nat × BitVec 34)} {s t : State} (c : Instr)
    (ht : execReceiptJudged receipt s = .next t) : Event s c t := by
  obtain ⟨hr, hc, hl, x, hx, ht⟩ := onTxn_next ht
  have hl : s.line.state = .receiptWait := by simpa using hl
  rcases receipt with _ | ⟨k, bits⟩
  · cases ht
    exact .onLine c _ hr hc hx (.receipt .absent hl)
  · obtain ⟨-, -, ht⟩ := inWindow_next ht
    cases ht
    exact .onLine c _ hr hc hx (.receipt _ hl)

theorem Event.of_contentionEnd {sample : BitVec 48} {s t : State} (c : Instr) (ht : execContentionEnd sample s = .next t) :
    Event s c t := by
  obtain ⟨hr, hc, hl, x, hx, ht⟩ := onTxn_next ht
  cases ht
  exact .onLine c _ hr hc hx (.contention sample (of_decide_eq_true hl))

theorem Event.of_joinPulse {s t : State} (c : Instr) (ht : execJoinPulseRecognised s = .next t) : Event s c t := by
  obtain ⟨hr, ht⟩ := running_next ht
  split at ht
  · next hj =>
    cases ht
    exact .joinReported c hr hj
  · cases ht
    exact .ignored c

/-! ### The expiries -/

/-- The expiry of a timer that answers a next state has its effect at the timer's step. -/
theorem Event.of_expiry {c : Instr} {s t : State} {timer : Option Nat} {act : State → State}
    (hx : ∀ n, timer = some n → ExpiryEffect (s.elapseTo n) (act (s.elapseTo n))) (ht : expiry s timer act = .next t) :
    Event s c t := by
  obtain ⟨hr, n, hn, hnext, rfl⟩ := expiry_next ht
  exact .expired c hr (State.expiresNext_iff.1 hnext) (hx n hn)

theorem State.quarantineTimer_some {s : State} {a : Addr} {n : Nat} (hn : s.quarantineTimer a = some n) :
    (s.entry a).state = .lost := by
  unfold State.quarantineTimer at hn
  split at hn
  · assumption
  · cases hn

/-! ### Every command -/

/-- A CONFIGURE stores values in the ranges of R166 alone. -/
theorem Configured.of_rate (v : Nat) (s : State) : Configured s (s.modConfig fun p => { p with rate := (rateOfCode v).getD p.rate }) :=
  .store _ (fun hw => hw) rfl

/-- A command that answers a next state has one of the effects. -/
theorem exec_event {c : Instr} {s t : State} (ht : exec c s = .next t) : Event s c t := by
  cases c with
  | powerOnResetAsserted => cases ht; exact .resetAsserted _
  | powerOnResetEnd straps =>
    replace ht : execPowerOnResetEnd straps s = .next t := ht
    unfold execPowerOnResetEnd at ht
    split at ht
    · next hr => cases ht; exact .resetEnded straps hr
    · cases ht
  | request h code tag body check => exact .of_request _ ht
  | fetch h began => exact .of_fetch _ ht
  | cancel h tag check => exact .of_cancel _ ht
  | hostReset h => exact .of_exchange .portReset ht
  | unknownExchange h first => exact .of_unknownExchange _ ht
  | hrstnFall h => exact .of_hrstnFall _ ht
  | hrstnRise h => exact .of_hrstnRise _ ht
  | invalidRequestCode h => exact .of_take (act := fun r s => s.answer h r .invalid .empty) (fun _ _ _ _ => .replied _ _) ht
  | list h => exact .of_take (fun _ _ _ _ => .of_shaped fun _ => .of_listRequest) ht
  | lookup h => exact .of_take (fun _ _ _ _ => .of_shaped fun _ => .of_lookupRequest) ht
  | recalls h => exact .of_take (fun _ _ _ _ => .of_shaped fun _ => .of_recallsRequest) ht
  | forget h => exact .of_take (fun _ _ _ _ => .of_shaped fun _ => .of_managing .forgot) ht
  | claim h => exact .of_take (fun _ _ _ _ => .of_shapedClaim (.of_claimChecked .of_claimRequest)) ht
  | renew h => exact .of_take (fun _ _ _ _ => .of_shapedClaim (.of_claimChecked .of_renewRequest)) ht
  | release h => exact .of_take (fun _ _ _ _ => .of_shapedClaim (.of_claimChecked .of_releaseRequest)) ht
  | revoke h =>
    exact .of_take (fun _ _ _ _ => .of_shapedClaim (.of_managingClaim (.of_claimChecked .of_revokeRequest))) ht
  | read h => exact .of_takeLineRequest ht
  | write h => exact .of_takeLineRequest ht
  | ping h => exact .of_takeLineRequest ht
  | enumerate h => exact .of_take (fun _ _ _ _ => .of_shaped fun _ => .enumerated _ _) ht
  | subscribe h => exact .of_take (fun _ _ _ _ => .of_shaped fun _ => .of_subscribeRequest) ht
  | settings h => exact .of_take (fun _ _ _ _ => .of_shaped fun _ => .replied _ _) ht
  | configureLineRate h => exact .of_takeConfigure (p := 1) (fun v u _ => .of_rate v u) ht
  | configureAnswerWindow h =>
    exact .of_takeConfigure (p := 2) (fun v u hv => .store _ (fun hw => ⟨by simpa using hv, hw.2⟩) rfl) ht
  | configureRetryLimit h =>
    exact .of_takeConfigure (p := 3) (fun v u hv => .store _ (fun ⟨hw, _, hw'⟩ => ⟨hw, by simpa using hv, hw'⟩) rfl) ht
  | configureMissLimit h => exact .of_takeConfigure (p := 4) (fun v u hv => .missLimit v (by simpa using hv)) ht
  | configureSweepInterval h => exact .of_takeConfigure (p := 5) (fun v u hv => .sweep v (by simpa using hv)) ht
  | configureQuarantine h =>
    exact .of_takeConfigure (p := 6)
      (fun v u hv => .store _ (fun ⟨hw, hr, hm, hs, _, hw'⟩ => ⟨hw, hr, hm, hs, by simpa using hv, hw'⟩) rfl) ht
  | configurePollInterval h =>
    exact .of_takeConfigure (p := 7)
      (fun v u hv => .store _ (fun ⟨hw, hr, hm, hs, hq, _, hw'⟩ => ⟨hw, hr, hm, hs, hq, by simpa using hv, hw'⟩) rfl) ht
  | configurePollLimit h =>
    exact .of_takeConfigure (p := 8)
      (fun v u hv => .store _ (fun ⟨hw, hr, hm, hs, hq, hi, _⟩ => ⟨hw, hr, hm, hs, hq, hi, by simpa using hv⟩) rfl) ht
  | configureUnknownParameter h => exact .of_take (fun _ _ _ _ => .of_shaped fun _ => .of_managing (.replied _ _)) ht
  | lineReset h => exact .of_take (fun _ _ _ _ => .of_shaped fun _ => .of_managing .lineReset) ht
  | resetHoldStart => exact .of_reset (running_next ht).1 (fun _ hp => .cut hp) (running_next ht).2
  | resetHoldEnd => exact .of_reset (running_next ht).1 (fun _ hp => .held _ hp) (running_next ht).2
  | resetWaitEnd n => exact .of_resetWaitEnd _ ht
  | resetTokenSent => exact .of_reset (running_next ht).1 (fun _ hp => .sent hp) (running_next ht).2
  | lineGapEnd => exact .of_lineGapEnd _ ht
  | startBitDeferralEnd levels => exact .of_startBitDeferralEnd _ ht
  | commandTokenEnd => exact .of_commandTokenEnd _ ht
  | answerWindowExpiry => exact .of_answerWindowExpiry _ ht
  | answerTokenJudged k bits => exact .of_answerTokenJudged ht
  | burstWindowExpiry => exact .of_burstWindowExpiry _ ht
  | readBurstJudged k data crc endBit => exact .of_readBurstJudged _ ht
  | writeBurstEnd => exact .of_writeBurstEnd _ ht
  | receiptJudged receipt => exact .of_receiptJudged _ ht
  | contentionEnd sample => exact .of_contentionEnd _ ht
  | joinPulseRecognised => exact .of_joinPulse _ ht
  | quarantineExpiry a => exact .of_expiry (act := fun s => s.leaveQuarantine a) (fun n hn => .quarantine a (State.quarantineTimer_some hn)) ht
  | leaseExpiry a => exact .of_expiry (act := fun s => s.endLease a) (fun n _ => .lease a) ht
  | waitExpiry a h => exact .of_expiry (act := fun s => s.endWait a h) (fun n _ => .wait a h) ht
  | pollTimerExpiry a => exact .of_expiry (act := fun s => s.pollDueAt a) (fun n _ => .poll a) ht
  | sweepIntervalExpiry => exact .of_expiry (fun n _ => .sweep) ht

end Sys2Proof.Machine
end

section
/-! SUPPORT. The changes of the directory that its serial counts, at most one of them in each command but the end of power-on reset
(R15); with it the rules over every command about waiting commands, generations, parameters and the serial (R4, R15, R166). -/

namespace Sys2Proof.Machine

set_option Elab.async false

open Sys2Proof

/-! ### The steady operations -/

section
variable {s t : State}

theorem State.Steady.setEntry (k : s.Steady t) {a : Addr} {e : Entry} (hg : e.gen = (t.entry a).gen := by rfl) :
    s.Steady (t.setEntry a e) :=
  k.trans {
    pending := rfl
    config := rfl
    time := rfl
    inReset := rfl
    gen := fun b => by
      rw [State.entry_setEntry]
      split
      · next hb => rw [hb, hg]
      · rfl }

theorem State.Steady.bumpSerial (k : s.Steady t) : s.Steady t.bumpSerial := k.trans ⟨rfl, rfl, rfl, rfl, fun _ => rfl⟩

theorem State.Steady.setRecalls (k : s.Steady t) {l : List Recall} : s.Steady (t.setRecalls l) :=
  k.trans ⟨rfl, rfl, rfl, rfl, fun _ => rfl⟩

theorem State.Steady.wantIfParked (k : s.Steady t) : s.Steady t.wantIfParked :=
  k.trans (State.Silent.wantIfParked (.refl t)).toSteady

/-- An entry made FREE with its recall record: the recall list and the entry change, and the engine may want a round (R11). -/
theorem State.Steady.freeRecorded (k : s.Steady t) {a : Addr} : s.Steady (t.freeRecorded a) :=
  .wantIfParked (.setEntry k.setRecalls)

end

@[simp] theorem State.wantIfParked_dir (s : State) : s.wantIfParked.dir = s.dir := by
  unfold State.wantIfParked
  split <;> rfl

@[simp] theorem State.wantIfParked_entry (s : State) (a : Addr) : s.wantIfParked.entry a = s.entry a := by
  rw [State.entry, State.wantIfParked_dir, State.entry]

@[simp] theorem State.freeRecorded_entry_same (s : State) (a : Addr) : (s.freeRecorded a).entry a = (s.entry a).freed := by
  rw [State.freeRecorded, State.wantIfParked_entry, State.entry_setEntry_same]

@[simp] theorem State.freeRecorded_serial (s : State) (a : Addr) : (s.freeRecorded a).dir.serial = s.dir.serial := by
  simp [State.freeRecorded]

/-- The two ends of a move to LOST: quarantine, or FREE at once (R8, R11). -/
theorem State.intoLost_fst (s : State) (a : Addr) :
    (s.intoLost a).1 = if s.config.quarantine = 0 then
        (((s.setEntry a (s.lostEntry (s.entry a))).bumpSerial).freeRecorded a)
      else (s.setEntry a (s.lostEntry (s.entry a))).bumpSerial := by
  unfold State.intoLost
  simp only
  split <;> rfl

theorem State.intoLost_steady (s : State) (a : Addr) : s.Steady (s.intoLost a).1 := by
  have hlost : s.Steady (s.setEntry a (s.lostEntry (s.entry a))).bumpSerial := .bumpSerial (.setEntry (.refl s))
  rw [State.intoLost_fst]
  split
  · exact hlost.freeRecorded
  · exact hlost

theorem State.intoLost_serial (s : State) (a : Addr) : (s.intoLost a).1.dir.serial = s.dir.serial + 1 := by
  rw [State.intoLost_fst]
  split <;> simp

theorem State.intoLost_state (s : State) (a : Addr) :
    ((s.intoLost a).1.entry a).state = .lost ∨ ((s.intoLost a).1.entry a).state = .free := by
  rw [State.intoLost_fst]
  split
  · exact .inr (by rw [State.freeRecorded_entry_same]; rfl)
  · exact .inl (by rw [State.bumpSerial_entry, State.entry_setEntry_same]; rfl)

theorem State.resetDirectory_entry (s : State) (a : Addr) :
    s.resetDirectory.entry a =
      if (s.entry a).state = .free then { s.entry a with claim := none, deferred := none } else (s.entry a).freed := by
  unfold State.resetDirectory
  dsimp only
  split <;> simp only [State.bumpSerial_entry, State.setParked_entry, State.entry_mapEntries, State.setRecalls_entry] <;> rfl

theorem State.resetDirectory_steady (s : State) : s.Steady s.resetDirectory where
  pending := by unfold State.resetDirectory; simp only; split <;> rfl
  config := by unfold State.resetDirectory; simp only; split <;> rfl
  time := by unfold State.resetDirectory; simp only; split <;> rfl
  inReset := by unfold State.resetDirectory; simp only; split <;> rfl
  gen a := by
    rw [State.resetDirectory_entry]
    split <;> rfl

/-! ### What the serial counts -/

/-- The serial moves by one where what it counts changes, and stays where not (R15). -/
def State.Tallies (s t : State) : Prop :=
  (t.counted ≠ s.counted ∧ t.dir.serial = s.dir.serial + 1) ∨ (t.counted = s.counted ∧ t.dir.serial = s.dir.serial)

theorem State.Silent.tallies {s t : State} (h : s.Silent t) : s.Tallies t := .inr ⟨h.counted, h.serial⟩

/-- Silent changes before and after do not count. -/
theorem State.Tallies.between {s u v t : State} (hs : s.Silent u) (h : u.Tallies v) (ht : v.Silent t) : s.Tallies t := by
  unfold State.Tallies
  rw [ht.counted, ht.serial, ← hs.counted, ← hs.serial]
  exact h

/-- A change of an entry's state is counted. -/
theorem State.counted_ne {s t : State} {a : Addr} (h : (t.entry a).state ≠ (s.entry a).state) : t.counted ≠ s.counted := by
  intro he
  have := congrFun (congrArg Prod.fst he) a
  exact h (congrArg Prod.fst this)

/-- A change of the directory that the serial counts. `law` is what makes it one: it holds where the command's state meets the
directory's laws. -/
inductive State.DirectoryOp (law : Prop) (s : State) : State → Prop where
  | none : DirectoryOp law s s
  | answered (a : Addr) (hb : (s.entry a).bound = true) : DirectoryOp law s (s.clearMiss a)
  | missed (a : Addr) (n : Nat) (hb : (s.entry a).bound = true) : DirectoryOp law s (s.countMiss a n).1
  | lost (a : Addr) (h : law → (s.entry a).state ≠ .lost ∧ (s.entry a).state ≠ .free) : DirectoryOp law s (s.intoLost a).1
  | retired (a : Addr) (hb : (s.entry a).bound = true) : DirectoryOp law s (s.retire a).1
  | returned (a : Addr) (h : law → (s.entry a).state = .lost) : DirectoryOp law s (s.takeLost a)
  | taken (a : Addr) (u : Uid) (l : List Recall) (h : law → (s.entry a).state = .free) :
      DirectoryOp law s ((s.setRecalls l).takeFree a u)
  | freed (a : Addr) (h : (s.entry a).state = .lost) : DirectoryOp law s (s.freeRecorded a).bumpSerial
  | forgotten (l : List Recall) (h : l ≠ s.dir.recalls) : DirectoryOp law s (s.setRecalls l).bumpSerial
  | released (a : Addr) (h : (s.entry a).state = .lost) : DirectoryOp law s (s.setEntry a (s.entry a).freed).bumpSerial
  | cleared : DirectoryOp law s s.resetDirectory

theorem State.bound_iff {e : Entry} : e.bound = true ↔ e.state = .present ∨ e.state = .suspect := by
  simp [Entry.bound]

theorem State.clearMiss_steady (s : State) (a : Addr) : s.Steady (s.clearMiss a) := by
  unfold State.clearMiss
  simp only
  split
  · exact .bumpSerial (.setEntry (.refl s))
  · exact .setEntry (.refl s)

theorem State.countMiss_steady (s : State) (a : Addr) (n : Nat) : s.Steady (s.countMiss a n).1 := by
  unfold State.countMiss
  simp only
  split
  · split
    · exact .bumpSerial (.setEntry (.refl s))
    · exact .setEntry (.refl s)
  · exact s.intoLost_steady a

theorem State.DirectoryOp.steady {law : Prop} {s t : State} (h : s.DirectoryOp law t) : s.Steady t := by
  cases h with
  | none => exact .refl s
  | answered a => exact s.clearMiss_steady a
  | missed a n => exact s.countMiss_steady a n
  | lost a => exact s.intoLost_steady a
  | retired a => exact .bumpSerial (.setEntry (.refl s))
  | returned a => exact .bumpSerial (.setEntry (.refl s))
  | taken a u l => exact .bumpSerial (.setEntry (.setRecalls (.refl s)))
  | freed a => exact .bumpSerial (.freeRecorded (.refl s))
  | forgotten l => exact .bumpSerial (.setRecalls (.refl s))
  | released a => exact .bumpSerial (.setEntry (.refl s))
  | cleared => exact s.resetDirectory_steady

/-- One increment beside a changed entry state. -/
theorem State.Tallies.of_state {s t : State} {a : Addr} (hst : (t.entry a).state ≠ (s.entry a).state)
    (hs : t.dir.serial = s.dir.serial + 1) : s.Tallies t := .inl ⟨State.counted_ne hst, hs⟩

/-- A bound entry that an answer clears is counted when it was SUSPECT (R6). -/
theorem State.clearMiss_tallies (s : State) (a : Addr) (hb : (s.entry a).bound = true) : s.Tallies (s.clearMiss a) := by
  unfold State.clearMiss
  simp only
  split
  · next hs => exact .of_state (a := a) (by simp [hs]) rfl
  · next hs =>
    have hp : (s.entry a).state = .present := (State.bound_iff.1 hb).resolve_right hs
    exact (State.Silent.setEntry (.refl s) hp.symm).tallies

theorem State.intoLost_tallies (s : State) (a : Addr) (h : (s.entry a).state ≠ .lost ∧ (s.entry a).state ≠ .free) :
    s.Tallies (s.intoLost a).1 := by
  refine .of_state (a := a) ?_ (s.intoLost_serial a)
  rcases s.intoLost_state a with he | he
  · rw [he]; exact h.1.symm
  · rw [he]; exact h.2.symm

/-- A bound entry that misses is counted when it becomes SUSPECT or LOST (R7). -/
theorem State.countMiss_tallies (s : State) (a : Addr) (n : Nat) (hb : (s.entry a).bound = true) : s.Tallies (s.countMiss a n).1 := by
  unfold State.countMiss
  simp only
  split
  · split
    · next hp => exact .of_state (a := a) (by simp [hp]) rfl
    · next hp =>
      have hs : (s.entry a).state = .suspect := (State.bound_iff.1 hb).resolve_left hp
      exact (State.Silent.setEntry (.refl s) hs.symm).tallies
  · refine s.intoLost_tallies a ?_
    rcases State.bound_iff.1 hb with hp | hp <;> simp [hp]

/-- The directory's part in a line reset is counted when an entry was not FREE (R26). -/
theorem State.resetDirectory_tallies (s : State) : s.Tallies s.resetDirectory := by
  by_cases hbusy : ∃ a, (s.entry a).state ≠ .free
  · obtain ⟨a, ha⟩ := hbusy
    refine .of_state (a := a) ?_ ?_
    · rw [State.resetDirectory_entry, if_neg ha]
      exact ha.symm
    · have : s.busyAddrs.isEmpty = false := by
        rw [List.isEmpty_eq_false_iff_exists_mem]
        exact ⟨a, by simp [State.busyAddrs, ha]⟩
      simp [State.resetDirectory, this]
  · have hfree : ∀ a, (s.entry a).state = .free := by simpa using hbusy
    have hnone : s.busyAddrs = [] := by simp [State.busyAddrs, hfree]
    refine .inr ⟨State.counted_eq (fun a => ?_) ?_, ?_⟩
    · rw [State.resetDirectory_entry, if_pos (hfree a)]
      exact ⟨rfl, rfl, rfl, rfl⟩
    · simp [State.resetDirectory, hnone]
    · simp [State.resetDirectory, hnone]

theorem State.DirectoryOp.tallies {law : Prop} {s t : State} (hl : law) (h : s.DirectoryOp law t) : s.Tallies t := by
  cases h with
  | none => exact (State.Silent.refl s).tallies
  | answered a hb => exact s.clearMiss_tallies a hb
  | missed a n hb => exact s.countMiss_tallies a n hb
  | lost a h => exact s.intoLost_tallies a (h hl)
  | retired a hb =>
    refine .of_state (a := a) ?_ rfl
    rcases State.bound_iff.1 hb with hp | hp <;> simp [State.retire, hp]
  | returned a h => exact .of_state (a := a) (by simp [State.takeLost, h hl]) rfl
  | taken a u l h => exact .of_state (a := a) (by simp [State.takeFree, h hl]) rfl
  | freed a h => exact .of_state (a := a) (by simp [h, Entry.freed]) (by simp)
  | forgotten l h => exact .inl ⟨fun he => h (congrArg Prod.snd he), rfl⟩
  | released a h => exact .of_state (a := a) (by simp [h, Entry.freed]) rfl
  | cleared => exact s.resetDirectory_tallies

/-! ### What a command changes of the directory -/

/-- Silent changes around one change of the directory. -/
def State.Changes (law : Prop) (s t : State) : Prop := ∃ u v, s.Silent u ∧ u.DirectoryOp law v ∧ v.Silent t

section
variable {law : Prop} {s t u : State}

theorem State.Silent.changes (h : s.Silent t) : s.Changes law t := ⟨s, s, .refl s, .none, h⟩

theorem State.DirectoryOp.changes (h : s.DirectoryOp law t) : s.Changes law t := ⟨s, t, .refl s, h, .refl t⟩

theorem State.Silent.trans_changes (h : s.Silent t) (k : t.Changes law u) : s.Changes law u :=
  let ⟨x, y, hx, hop, hy⟩ := k
  ⟨x, y, h.trans hx, hop, hy⟩

theorem State.Changes.trans_silent (k : s.Changes law t) (h : t.Silent u) : s.Changes law u :=
  let ⟨x, y, hx, hop, hy⟩ := k
  ⟨x, y, hx, hop, hy.trans h⟩

theorem State.Changes.steady (k : s.Changes law t) : s.Steady t :=
  let ⟨_, _, hx, hop, hy⟩ := k
  (hx.toSteady.trans hop.steady).trans hy.toSteady

theorem State.Changes.tallies (hl : law) (k : s.Changes law t) : s.Tallies t :=
  let ⟨_, _, hx, hop, hy⟩ := k
  .between hx (hop.tallies hl) hy

end

/-! ### Deliveries -/

theorem State.applyOutcome_op {law : Prop} (s : State) (a : Addr) (o : TxnOutcome) (n : Nat) :
    s.DirectoryOp law (s.applyOutcome a o n).1 := by
  unfold State.applyOutcome
  split
  · next hb =>
    cases o with
    | answered st v p => exact .answered a hb
    | noAnswer => exact .missed a n hb
    | receiptMissing j => exact .missed a n hb
    | checkFailed => exact .none
    | burstFailed => exact .none
    | aborted => exact .none
  · exact .none

theorem State.directoryTakes_op {law : Prop} (s : State) (t : Txn) (o : TxnOutcome) :
    s.DirectoryOp law (s.directoryTakes t o).1 := by
  unfold State.directoryTakes
  split
  · exact s.applyOutcome_op _ o _
  · exact .none

theorem State.deliverHost_silent (s : State) (h : HostId) (t : Txn) (o : TxnOutcome) :
    (s.directoryTakes t o).1.Silent (s.deliverHost h t o) := by
  unfold State.deliverHost
  rcases s.directoryTakes t o with ⟨s1, ps⟩
  dsimp only
  split
  · exact .postAll (.endIdlePass (.createDeferred (.setSlot (.refl s1))))
  · exact .postAll (.endIdlePass (.setSlot (.refl s1)))

theorem State.deliverPoller_silent (s : State) (t : Txn) (o : TxnOutcome) :
    (s.directoryTakes t o).1.Silent (s.deliverPoller t o) := by
  unfold State.deliverPoller
  rcases s.directoryTakes t o with ⟨s1, ps⟩
  dsimp only
  split
  · split
    · exact .postAll (.endIdlePass (.setEntry (.refl s1)))
    · exact .postAll (.endIdlePass (.refl s1))
  · exact .postAll (.refl s1)

theorem State.deliverSweep_silent (s : State) (t : Txn) (o : TxnOutcome) :
    (s.directoryTakes t o).1.Silent (s.deliverSweep t o) := by
  unfold State.deliverSweep
  rcases s.directoryTakes t o with ⟨s1, ps⟩
  dsimp only
  split
  · exact .postAll (.endIdlePass (.advanceSweep (.refl s1)))
  · exact .postAll (.refl s1)

/-- A delivery changes the directory by the outcome at the entry the transaction names, and only so (R87). -/
theorem State.deliver_changes {law : Prop} (s : State) (t : Txn) (o : TxnOutcome) : s.Changes law (s.deliver t o) := by
  have htakes : s.Changes law (s.directoryTakes t o).1 := (s.directoryTakes_op t o).changes
  unfold State.deliver
  split
  · exact htakes.trans_silent (s.deliverHost_silent _ t o)
  · exact htakes.trans_silent (s.deliverPoller_silent t o)
  · exact htakes.trans_silent (s.deliverSweep_silent t o)
  · exact (State.Silent.refl s).changes

theorem State.finish_changes {law : Prop} (s : State) (t : Txn) (o : TxnOutcome) (g : Nat) : s.Changes law (s.finish t o g) :=
  State.Silent.trans_changes (.toGap (.refl s)) (State.deliver_changes _ t o)

theorem State.attemptFails_changes {law : Prop} (s : State) (t : Txn) (m : FailMark) (g : Nat) :
    s.Changes law (s.attemptFails t m g) := by
  unfold State.attemptFails
  dsimp only
  split
  · exact State.Silent.changes (.toGap (.refl s))
  · exact s.finish_changes _ _ _

theorem State.accessAnswer_changes {law : Prop} (s : State) (t : Txn) (j : Judgement) : s.Changes law (s.accessAnswer t j) := by
  unfold State.accessAnswer
  split
  · exact s.attemptFails_changes _ _ _
  · exact s.attemptFails_changes _ _ _
  · split
    · exact State.Silent.changes (.toLineState (.refl s))
    · exact State.Silent.changes (.toLineState (.refl s))
    · exact s.finish_changes _ _ _

theorem State.receiptIs_changes {law : Prop} (s : State) (t : Txn) (j : Judgement) : s.Changes law (s.receiptIs t j) := by
  unfold State.receiptIs
  split <;> exact s.finish_changes _ _ _

theorem State.burstJudged_changes {law : Prop} (s : State) (t : Txn) (data : List Byte) (ok : Bool) :
    s.Changes law (s.burstJudged t data ok) := by
  unfold State.burstJudged
  split
  · exact s.finish_changes _ _ _
  · exact s.attemptFails_changes _ _ _

/-- The line of a cut: the hold begins and nothing is left on it (R32, R171). -/
def State.holdBegun (s : State) (lr : LineReset) : State :=
  { s with line := { s.line with state := .resetHold, gap := none, start := .untold, record := none,
                                 rate := s.config.rate, reset := some { lr with phase := .hold } } }

theorem State.cut_eq (s : State) (lr : LineReset) : s.cut lr =
    match s.line.record with
    | some t => (s.holdBegun lr).deliver t .aborted
    | none => s.holdBegun lr := rfl

theorem State.cut_changes {law : Prop} (s : State) (lr : LineReset) : s.Changes law (s.cut lr) := by
  have hold : s.Silent (s.holdBegun lr) := .setLine (.refl s)
  rw [State.cut_eq]
  split
  · exact hold.trans_changes (State.deliver_changes _ _ _)
  · exact hold.changes

/-! ### Rounds -/

theorem State.recordFailure_silent (s : State) (u : Uid) : s.Silent (s.recordFailure u).1 := by
  unfold State.recordFailure
  extract_lets n
  split
  · exact .setWanted (.modEngine (.refl s))
  · exact State.Silent.modEngine (.refl s) (f := fun e => { e.clearFailure with wanted := false })

/-- The two parts of a failed bind: the entry becomes LOST and the failure record counts the candidate (R59, R64). -/
theorem State.failBind_fst (s : State) (a : Addr) : (s.failBind a).1 =
    ((s.intoLost a).1.recordFailure (s.intoLost a).1.candidateUid).1.decideRound .plain := rfl

theorem State.failBind_changes {law : Prop} (s : State) (a : Addr)
    (h : law → (s.entry a).state ≠ .lost ∧ (s.entry a).state ≠ .free) : s.Changes law (s.failBind a).1 := by
  rw [State.failBind_fst]
  exact (State.DirectoryOp.lost a h).changes.trans_silent (.decideRound (State.recordFailure_silent _ _))

theorem State.parkAccepted_silent (s : State) : s.Silent s.parkAccepted.1 := by
  have hpark : s.Silent ((s.setParked (s.dir.parked + 1)).modEngine Engine.clearFailure) := .modEngine (.setParked (.refl s))
  unfold State.parkAccepted
  dsimp only
  split
  · exact hpark.decideRound
  · exact hpark.setWanted.decideRound

theorem State.failPark_fst (s : State) : s.failPark.1 = (s.recordFailure s.candidateUid).1.decideRound .plain := rfl

theorem State.decidePark_silent (s : State) (j : Judgement) : s.Silent (s.decidePark j).1 := by
  have hfail : s.Silent s.failPark.1 := State.failPark_fst s ▸ (s.recordFailure_silent _).decideRound
  unfold State.decidePark
  split
  · exact s.parkAccepted_silent
  · split
    · exact .refl s
    · exact hfail
  · split
    · exact .refl s
    · exact hfail

/-- The two parts of a completed bind: the directory's and the engine's (R57). -/
theorem State.completeBind_fst (s : State) (a : Addr) (cls : Option Byte) : (s.completeBind a cls).1 =
    ((s.bindDone a s.engine.path cls).1.modEngine Engine.clearFailure).setWanted.decideRound .plain := rfl

theorem State.completeBind_silent (s : State) (a : Addr) (cls : Option Byte) :
    (s.bindDone a s.engine.path cls).1.Silent (s.completeBind a cls).1 := by
  rw [State.completeBind_fst]
  exact .decideRound (.setWanted (.modEngine (.refl _)))

/-- The judged answer of a round's token completes the bind at the chosen address, but never where it is absent, or changes no
generation. -/
theorem State.engineDecides_changes {law : Prop} (s : State) (k : TxnKind) (j : Judgement)
    (h : ∀ a, s.engine.chosen = some a → k = .ping → law → (s.entry a).state ≠ .lost ∧ (s.entry a).state ≠ .free) :
    s.Changes law (s.engineDecides k j).1 ∨
      j ≠ .absent ∧ (k = .assign ∨ k = .ping) ∧ ∃ a cls, s.engine.chosen = some a ∧
        (s.bindDone a s.engine.path cls).1.Silent (s.engineDecides k j).1 := by
  have hsilent : ∀ f, s.Changes law (s.modEngine f) := fun f => State.Silent.changes (.modEngine (.refl s))
  unfold State.engineDecides
  split
  · next a ha =>
    cases j with
    | absent => exact .inl (hsilent fun e => { e with state := .confirming })
    | garbled => exact .inl (hsilent fun e => { e with state := .confirming })
    | correct st v => exact .inr ⟨by simp, .inl rfl, a, _, ha, s.completeBind_silent a _⟩
  · next a ha =>
    unfold State.decideConfirm
    split
    · next hconf =>
      refine .inr ⟨?_, .inr rfl, a, _, ha, s.completeBind_silent a _⟩
      rintro rfl
      simp [State.pingConfirms] at hconf
    · split
      · exact .inl (hsilent fun e => { e with state := .binding })
      · exact .inl (s.failBind_changes a (h a ha rfl))
  · exact .inl (s.decidePark_silent j).changes
  · exact .inl (State.Silent.refl s).changes

/-- The two parts of a judged answer in a round: the engine's decision after the gap begins, then its items (R82). -/
theorem State.roundAnswer_eq (s : State) (t : Txn) (j : Judgement) : s.roundAnswer t j =
    ((s.toGap Config.gapBits none).engineDecides t.kind j).1.endIdlePass.postAll
      ((s.toGap Config.gapBits none).engineDecides t.kind j).2 := rfl

/-- The bind at the chosen address completes, among silent changes (R57). -/
def State.Binds (s t : State) : Prop :=
  ∃ a path cls u, s.Silent u ∧ s.engine.chosen = some a ∧ (u.bindDone a path cls).1.Silent t

/-- The judged answer of a round's token: a bind completed at the chosen address, or a change of no generation (R82). -/
theorem State.roundAnswer_changes {law : Prop} (s : State) (t : Txn) (j : Judgement)
    (h : ∀ a, s.engine.chosen = some a → t.kind = .ping → law → (s.entry a).state ≠ .lost ∧ (s.entry a).state ≠ .free) :
    s.Changes law (s.roundAnswer t j) ∨ j ≠ .absent ∧ (t.kind = .assign ∨ t.kind = .ping) ∧ s.Binds (s.roundAnswer t j) := by
  have hgap : s.Silent (s.toGap Config.gapBits none) := .toGap (.refl s)
  rw [State.roundAnswer_eq]
  rcases (s.toGap Config.gapBits none).engineDecides_changes (law := law) t.kind j h with hdec | ⟨hj, hk, a, cls, ha, hb⟩
  · exact .inl (hgap.trans_changes (hdec.trans_silent (.postAll (.endIdlePass (.refl _)))))
  · exact .inr ⟨hj, hk, a, _, cls, _, hgap, ha, hb.endIdlePass.postAll⟩

/-- The choice of an address takes the candidate's entry for the round; `law` says where the entries it finds stand. -/
theorem State.chooseAddress_op {law : Prop} (s : State) (u : Uid) (hb : law → ∀ a, (s.entry a).state ≠ .binding)
    (hr : law → ∀ r ∈ s.dir.recalls, (s.entry r.addr).state = .free) : s.DirectoryOp law (s.chooseAddress u).1 := by
  unfold State.chooseAddress
  split
  · next a ha =>
    split
    · exact .retired a ‹_›
    · next hnb =>
      refine .returned a fun hl => ?_
      have hfree := (State.holderOf_eq_some_iff.1 ha).1.1
      have hbind := hb hl a
      rw [State.bound_iff, not_or] at hnb
      revert hfree hbind hnb
      cases (s.entry a).state <;> simp
  · split
    · next r hrec => exact .taken r.addr u _ fun hl => hr hl r (List.mem_of_find?_eq_some hrec)
    · split
      · next a ha => exact .taken a u s.dir.recalls fun _ => (State.lowestUnreserved_eq_some_iff.1 ha).1.1
      · split
        · next a ha => exact .taken a u _ fun _ => (State.lowestFree_eq_some_iff.1 ha).1
        · exact .none

/-- What a contention result leaves: the directory as its choice of an address leaves it, and the engine changed (R52 to R55). -/
theorem State.contentionResult_fst (s : State) (u : Uid) :
    ∃ f, (s.contentionResult u).1 = s.modEngine f ∨ (s.contentionResult u).1 = (s.chooseAddress u).1.modEngine f := by
  unfold State.contentionResult
  split
  · exact ⟨fun e => { e with ending := some .plain }, .inl rfl⟩
  · split
    · exact ⟨fun e => { e with ending := some .fouled }, .inl rfl⟩
    · rcases s.chooseAddress u with ⟨s1, ps, _ | ⟨a, path⟩⟩
      · exact ⟨fun e => { e with candidate := some u, chosen := none, state := .parking }, .inr rfl⟩
      · exact ⟨fun e => { e with candidate := some u, chosen := some a, path := path, state := .binding }, .inr rfl⟩

theorem State.takeContention_eq (s : State) (u : Uid) : s.takeContention u =
    ((s.toGap Config.gapBits none).contentionResult u).1.endIdlePass.postAll
      ((s.toGap Config.gapBits none).contentionResult u).2 := rfl

theorem State.takeContention_changes {law : Prop} (s : State) (u : Uid) (hb : law → ∀ a, (s.entry a).state ≠ .binding)
    (hr : law → ∀ r ∈ s.dir.recalls, (s.entry r.addr).state = .free) : s.Changes law (s.takeContention u) := by
  have hgap : s.Silent (s.toGap Config.gapBits none) := .toGap (.refl s)
  have hchoice := ((s.toGap Config.gapBits none).chooseAddress_op u hb hr).changes
  rw [State.takeContention_eq]
  obtain ⟨f, hf | hf⟩ := (s.toGap Config.gapBits none).contentionResult_fst u
  · rw [hf]
    exact State.Silent.changes (.postAll (.endIdlePass (.modEngine hgap)))
  · rw [hf]
    exact hgap.trans_changes (hchoice.trans_silent (.postAll (.endIdlePass (.modEngine (.refl _)))))

theorem State.gapEnd_silent (s : State) : s.Silent s.gapEnd := by
  unfold State.gapEnd
  split
  · exact .beginAttempt (.refl s)
  · split
    · unfold State.roundGapEnd
      split
      · exact .grant (.modEngine (.refl s))
      · exact .sendRoundToken (.modEngine (.refl s))
    · exact .grant (.refl s)

/-! ### Line resets, requests and expiries -/

/-- A line reset as it begins, before its items (R170). -/
def State.resetBegun (s : State) (reason : ResetReason) (qs : List Requester) : State :=
  let s1 := s.resetDirectory.resetEngine.resetSweep
  { s1 with line := { s1.line with reset := some ⟨.cutPending, reason, qs⟩ } }

theorem State.beginLineReset_eq (s : State) (reason : ResetReason) (qs : List Requester) :
    s.beginLineReset reason qs = (s.resetBegun reason qs).postAll (s.lineResetItems ++ [.notice (.lineReset reason)]) := rfl

theorem State.resetBegun_silent (s : State) (reason : ResetReason) (qs : List Requester) :
    s.resetDirectory.Silent (s.resetBegun reason qs) := .setLine (.setSweep (.modEngine (.refl _)))

theorem State.beginLineReset_changes {law : Prop} (s : State) (reason : ResetReason) (qs : List Requester) :
    s.Changes law (s.beginLineReset reason qs) := by
  rw [State.beginLineReset_eq]
  exact State.DirectoryOp.cleared.changes.trans_silent (s.resetBegun_silent reason qs).postAll

theorem State.requestLineReset_changes {law : Prop} (s : State) (h : HostId) (tag : Tag) :
    s.Changes law (s.requestLineReset h tag) := by
  unfold State.requestLineReset
  split
  · exact State.Silent.changes (.setLine (.refl s))
  · exact s.beginLineReset_changes _ _

theorem State.recallOf_some {s : State} {u : Uid} {x : Recall} (hx : s.recallOf u = some x) : x ∈ s.dir.recalls ∧ x.uid = u :=
  ⟨List.mem_of_find?_eq_some hx, by simpa using List.find?_some hx⟩

theorem forgetRequest_changes {law : Prop} (h : HostId) (r : Request) (s : State) : s.Changes law (forgetRequest h r s) := by
  unfold forgetRequest
  dsimp only
  split
  · next x hx =>
    obtain ⟨hmem, hu⟩ := State.recallOf_some hx
    refine (State.DirectoryOp.forgotten _ fun he => ?_).changes.trans_silent (.answer (.refl _))
    have := List.filter_eq_self.1 he x hmem
    simp [hu] at this
  · split
    · next a ha =>
      split
      · next hl => exact (State.DirectoryOp.released a hl).changes.trans_silent (.post (.answer (.wantIfParked (.refl _))))
      · exact State.Silent.changes (.answer (.refl s))
    · exact State.Silent.changes (.answer (.refl s))

theorem TakeEffect.changes {law : Prop} {s t : State} {h : HostId} {r : Request} (hx : TakeEffect s h r t) : s.Changes law t := by
  cases hx with
  | replied o b => exact State.Silent.changes (.answer (.refl s))
  | repliedClaim o b => exact State.Silent.changes (.answerClaim (.refl s))
  | forgot => exact (forgetRequest_changes h r s).trans_silent (.grant (.refl _))
  | claimed a lease o b => exact State.Silent.changes (.answerClaim (.setClaim (.refl s)))
  | renewed a c lease o b => exact State.Silent.changes (.answerClaim (.setClaim (.refl s)))
  | waits a c => exact State.Silent.changes (.setClaim (.refl s))
  | handedOver a c o b ps => exact State.Silent.changes (.postAll (.answerClaim (.handOver (.refl s))))
  | slotted k => exact State.Silent.changes (.grant (.setSlot (.refl s)))
  | enumerated o b => exact State.Silent.changes (.grant (.answer (.modEngine (.refl s))))
  | subscribed m o b => exact State.Silent.changes (.answer (.setPort (.refl s)))
  | lineReset => exact s.requestLineReset_changes h r.tag

theorem ExchangeEffect.silent {s t : State} {h : HostId} (hx : ExchangeEffect s h t) : s.Silent t := by
  cases hx with
  | nothing => exact .refl s
  | accepted r => exact .setPort (.refl s)
  | fetched i rest => exact .setPort (.refl s)
  | cancelled tag => exact s.cancelled_silent h tag
  | portReset => exact s.resetPort_silent h

theorem ResetEffect.changes {law : Prop} {s t : State} {lr : LineReset} (hx : ResetEffect s lr t) : s.Changes law t := by
  cases hx with
  | cut => exact s.cut_changes lr
  | held n => exact State.Silent.changes (.setLine (.setLine (.refl s)))
  | waited n => exact State.Silent.changes (.setLine (.setLine (.setLine (.refl s))))
  | sent => exact State.Silent.changes (.postAll (.setLine (.addBits (.toGap (.refl s)))))

theorem State.endLease_silent (s : State) (a : Addr) : s.Silent (s.endLease a) := by
  unfold State.endLease
  split
  · exact .postAll (.handOver (.refl s))
  · exact .refl s

theorem State.endWait_silent (s : State) (a : Addr) (h : HostId) : s.Silent (s.endWait a h) := by
  unfold State.endWait
  split
  · split
    · exact .post (.setEntry (.refl s))
    · exact .refl s
  · exact .refl s

theorem State.sweepDue_silent (s : State) : s.Silent s.sweepDue := by
  unfold State.sweepDue
  dsimp only
  split
  · exact .grant (.setSweep (.refl s))
  · exact .grant (.endIdlePass (.setSweep (.setSweep (.refl s))))

theorem ExpiryEffect.changes {law : Prop} {s t : State} (hx : ExpiryEffect s t) : s.Changes law t := by
  cases hx with
  | quarantine a hl => exact (State.DirectoryOp.freed a hl).changes.trans_silent (.grant (.post (.refl _)))
  | lease a => exact (s.endLease_silent a).changes
  | wait a h => exact (s.endWait_silent a h).changes
  | poll a => exact State.Silent.changes (.grant (.setEntry (.refl s)))
  | sweep => exact s.sweepDue_silent.changes

end Sys2Proof.Machine
end

section
/-! SUPPORT. The rules over every command about the waiting queue, generations, parameters and the directory serial (R4, R15, R166),
from what each command changes of the directory. -/

namespace Sys2Proof.Machine

set_option Elab.async false

open Sys2Proof

/-! ### What the laws say of the line -/

section
variable {s : State} {x : Txn}

/-- A transaction whose line no cut is about to leave stands on a line without a line reset (R171). -/
theorem State.DirectoryLaw.reset_none (hl : s.DirectoryLaw) (hx : s.line.record = some x) (hc : s.cutPending = false) :
    s.line.reset = none := by
  obtain ⟨-, -, -, -, -, hreset, -⟩ := hl.line
  cases hr : s.line.reset with
  | none => rfl
  | some lr =>
    have hp : lr.phase ≠ .cutPending := by simpa [State.cutPending, hr] using hc
    rw [((hreset lr hr).2 hp).2] at hx
    cases hx

/-- In the contention slots the engine is SEEKING, and no entry is in BINDING. -/
theorem State.DirectoryLaw.seeking_of_contention (hl : s.DirectoryLaw) (hx : s.line.record = some x) (hc : s.cutPending = false)
    (hs : s.line.state = .contention) : s.engine.state = .seeking ∧ s.engine.ending = none := by
  obtain ⟨hstands, hround, haccess⟩ := hl.line.1 (hl.reset_none hx hc) x hx
  have hk : x.kind = .seek := by simpa [Txn.standsIn, hs] using hstands
  by_cases ho : x.owner = .identification
  · obtain ⟨hstate, hending⟩ := hround ho
    rw [hk] at hstate
    exact ⟨(Option.some.inj hstate).symm, hending⟩
  · have := (haccess ho).1
    rw [hk] at this
    cases this

theorem State.DirectoryLaw.no_binding_of_seeking (hl : s.DirectoryLaw) (hs : s.engine.state = .seeking) (a : Addr) :
    (s.entry a).state ≠ .binding := by
  intro hb
  have := ((hl.round.1 a).1 hb).1
  simp [hs] at this

/-- The chosen address of a confirming PING is that of the entry in BINDING. -/
theorem State.DirectoryLaw.binding_of_round_ping (hl : s.DirectoryLaw) (hx : s.line.record = some x) (hc : s.cutPending = false)
    (ho : x.owner = .identification) (hk : x.kind = .ping) {a : Addr} (ha : s.engine.chosen = some a) :
    (s.entry a).state = .binding := by
  obtain ⟨hstate, hending⟩ := (hl.line.1 (hl.reset_none hx hc) x hx).2.1 ho
  rw [hk] at hstate
  exact (hl.round.1 a).2 ⟨.inr (Option.some.inj hstate).symm, hending, ha⟩

/-- The chosen address of an ASSIGN is that of the entry in BINDING. -/
theorem State.DirectoryLaw.binding_of_assign (hl : s.DirectoryLaw) (hx : s.line.record = some x) (hc : s.cutPending = false)
    (ho : x.owner = .identification) (hk : x.kind = .assign) {a : Addr} (ha : s.engine.chosen = some a) :
    (s.entry a).state = .binding := by
  obtain ⟨hstate, hending⟩ := (hl.line.1 (hl.reset_none hx hc) x hx).2.1 ho
  rw [hk] at hstate
  exact (hl.round.1 a).2 ⟨.inl (Option.some.inj hstate).symm, hending, ha⟩

end

/-! ### What a command changes of the directory -/

/-- The bind at the chosen address is complete, from an entry that the laws leave in BINDING, among silent changes (R57). -/
def State.BindsBinding (s t : State) : Prop :=
  ∃ a path cls u, s.Silent u ∧ s.engine.chosen = some a ∧ (s.DirectoryLaw → (u.entry a).state = .binding) ∧
    (u.bindDone a path cls).1.Silent t

/-- The answer to the transaction `x` is judged on a line that no cut is about to leave. -/
theorem State.answerJudged_changes {s : State} {x : Txn} (n : Nat) (j : Judgement) (hc : s.cutPending = false)
    (hx : s.line.record = some x) :
    s.Changes s.DirectoryLaw ((s.addBits n).answerJudged x j) ∨
      j ≠ .absent ∧ s.BindsBinding ((s.addBits n).answerJudged x j) := by
  have hbits : s.Silent (s.addBits n) := .addBits (.refl s)
  unfold State.answerJudged
  split
  · next ho =>
    have hping : ∀ a, (s.addBits n).engine.chosen = some a → x.kind = .ping → s.DirectoryLaw →
        ((s.addBits n).entry a).state ≠ .lost ∧ ((s.addBits n).entry a).state ≠ .free := by
      intro a ha hk hl
      have hb : ((s.addBits n).entry a).state = .binding := hl.binding_of_round_ping hx hc ho hk ha
      rw [hb]
      decide
    rcases (s.addBits n).roundAnswer_changes (law := s.DirectoryLaw) x j hping with h | ⟨hj, hk, a, path, cls, u, hu, ha, hb⟩
    · exact .inl (hbits.trans_changes h)
    · refine .inr ⟨hj, a, path, cls, u, hbits.trans hu, ha, fun hl => ?_, hb⟩
      have hst : (u.entry a).state = (s.entry a).state :=
        congrArg Prod.fst (congrFun (congrArg Prod.fst (hbits.trans hu).counted) a)
      rw [hst]
      rcases hk with hk | hk
      · exact hl.binding_of_assign hx hc ho hk ha
      · exact hl.binding_of_round_ping hx hc ho hk ha
  · exact .inl (hbits.trans_changes (State.accessAnswer_changes _ x j))

theorem TxnEffect.changes {s t : State} {x : Txn} {n : Nat} (he : TxnEffect (s.addBits n) x t) (hc : s.cutPending = false)
    (hx : s.line.record = some x) : s.Changes s.DirectoryLaw t := by
  have hbits : s.Silent (s.addBits n) := .addBits (.refl s)
  refine hbits.trans_changes ?_
  cases he with
  | tokenEnded hs =>
    unfold State.tokenEnd
    split
    · exact State.Silent.changes (.toGap (.setParked (.refl _)))
    · exact State.Silent.changes (.toLineState (.refl _))
    · exact State.Silent.changes (.toLineState (.refl _))
  | receipt j hs => exact State.receiptIs_changes _ x j
  | failed hs => exact State.attemptFails_changes _ x _ _
  | burst data ok hs => exact State.burstJudged_changes _ x data ok
  | burstSent hs => exact State.Silent.changes (.toLineState (.refl _))
  | contention u hs =>
    exact State.takeContention_changes _ u (fun hl => hl.no_binding_of_seeking (hl.seeking_of_contention hx hc hs).1)
      fun hl r hr => (hl.uids.2.2.2.2.2.2.1 r hr).1

theorem State.reportJoin_silent (s : State) : s.Silent s.reportJoin := by
  unfold State.reportJoin
  dsimp only
  split
  · exact .setLine (.grant (.setWanted (.refl s)))
  · exact .grant (.setWanted (.refl s))

/-- Every command but the end of power-on reset: a CONFIGURE, or a bind completed by an answer at the chosen address, or at most
one change of the directory that changes no generation and no parameter. -/
theorem Event.changes {s t : State} {c : Instr} (he : Event s c t) :
    (∃ straps, c = .powerOnResetEnd straps ∧ t = (s.powerOn straps).beginLineReset .powerOn []) ∨
    (∃ h r rest u o b, s.AtHead h r rest ∧ c = takeOf h r ∧ r.code = 0x0F ∧ (s.port h).manage = true ∧
      Configured (s.taken h rest) u ∧ t = u.answer h r o b) ∨
    (∃ n b, State.Changes s.DirectoryLaw { s with time := n, inReset := b } t) ∨
    ((∃ k bits, c = .answerTokenJudged k bits) ∧ s.BindsBinding t) := by
  have hkept : s.Changes s.DirectoryLaw t →
      ∃ n b, State.Changes s.DirectoryLaw { s with time := n, inReset := b } t := fun h => ⟨s.time, s.inReset, h⟩
  have hsilent : s.Silent t → ∃ n b, State.Changes s.DirectoryLaw { s with time := n, inReset := b } t := fun h =>
    hkept h.changes
  cases he with
  | ignored => exact .inr (.inr (.inl (hsilent (.refl s))))
  | resetAsserted => exact .inr (.inr (.inl ⟨s.time, true, (State.Silent.refl _).changes⟩))
  | resetEnded straps => exact .inl ⟨straps, rfl, rfl⟩
  | exchanged _ bytes hr hh hx => exact .inr (.inr (.inl (hsilent hx.silent.giveBack)))
  | pinFell _ h => exact .inr (.inr (.inl (hsilent (.setHeld (.refl s)))))
  | portFell _ h => exact .inr (.inr (.inl (hsilent (.setHeld (.giveBack (s.resetPort_silent h))))))
  | pinRose _ h => exact .inr (.inr (.inl (hsilent (.setHeld (.refl s)))))
  | took _ hq hx => exact .inr (.inr (.inl (hkept (State.Silent.trans_changes (.taken (.refl s)) hx.changes))))
  | configured o b hq hc hm hx => exact .inr (.inl ⟨_, _, _, _, o, b, hq, rfl, hc, hm, hx, rfl⟩)
  | resetting _ hr hl hx => exact .inr (.inr (.inl (hkept hx.changes)))
  | gapEnded _ g => exact .inr (.inr (.inl (hsilent ((State.Silent.setLine (.refl s)).trans (State.gapEnd_silent _)))))
  | startSent _ n => exact .inr (.inr (.inl (hsilent (.setLine (.setLine (.refl s))))))
  | onLine _ n hr hc hx he => exact .inr (.inr (.inl (hkept (he.changes hc hx))))
  | answerMissed _ n hr hc hx hs =>
    rcases State.answerJudged_changes n .absent hc hx with h | ⟨hj, -⟩
    · exact .inr (.inr (.inl (hkept h)))
    · exact absurd rfl hj
  | answerCame k bits n hr hc hx hs =>
    rcases State.answerJudged_changes n (judgeAnswer _ bits) hc hx with h | ⟨-, h⟩
    · exact .inr (.inr (.inl (hkept h)))
    · exact .inr (.inr (.inr ⟨⟨k, bits, rfl⟩, h⟩))
  | joinReported => exact .inr (.inr (.inl (hsilent s.reportJoin_silent)))
  | @expired _ n _ hr hn hx => exact .inr (.inr (.inl ⟨n, s.inReset, hx.changes⟩))

/-! ### CONFIGURE -/

theorem State.applyMissLimit_entry (s : State) (v : Nat) (a : Addr) :
    (s.applyMissLimit v).entry a = (s.entry a).lowerMiss v := by
  unfold State.applyMissLimit
  dsimp only
  split <;> simp only [State.bumpSerial_entry, State.entry_mapEntries]

theorem Entry.lowerMiss_kept (e : Entry) (v : Nat) : (e.lowerMiss v).gen = e.gen ∧ (e.lowerMiss v).uid = e.uid ∧
    (e.lowerMiss v).cls = e.cls := by
  unfold Entry.lowerMiss
  split <;> exact ⟨rfl, rfl, rfl⟩

/-- An entry changes state with a lowered miss limit just where the limit is 1 and reaches it (R9). -/
theorem Entry.lowerMiss_state (e : Entry) {v : Nat} (hv : 1 ≤ v) :
    (e.lowerMiss v).state = if v = 1 ∧ e.overLimit v = true then .present else e.state := by
  unfold Entry.lowerMiss
  split
  · next ho =>
    have hs : e.state = .suspect := by simp only [Entry.overLimit, Bool.and_eq_true, beq_iff_eq] at ho; exact ho.1
    have hone : v - 1 = 0 ↔ v = 1 := by omega
    simp [ho, hone, hs]
  · next ho => simp [ho]

theorem State.applyMissLimit_tallies (s : State) {v : Nat} (hv : 1 ≤ v) : s.Tallies (s.applyMissLimit v) := by
  by_cases hmove : v = 1 ∧ ∃ a, (s.entry a).overLimit v = true
  · obtain ⟨rfl, a, ha⟩ := hmove
    have hs : (s.entry a).state = .suspect := by
      simp only [Entry.overLimit, Bool.and_eq_true, beq_iff_eq] at ha
      exact ha.1
    refine .of_state (a := a) ?_ ?_
    · rw [State.applyMissLimit_entry, Entry.lowerMiss_state _ hv, if_pos ⟨rfl, ha⟩, hs]
      decide
    · have : allAddrs.any (fun a => (s.entry a).overLimit 1) = true := List.any_eq_true.2 ⟨a, mem_allAddrs a, ha⟩
      simp [State.applyMissLimit, this]
  · have hnot : ¬ (v = 1 ∧ allAddrs.any (fun a => (s.entry a).overLimit v) = true) := by simpa using hmove
    refine .inr ⟨State.counted_eq (fun a => ?_) ?_, ?_⟩
    · obtain ⟨hg, hu, hc⟩ := (s.entry a).lowerMiss_kept v
      rw [State.applyMissLimit_entry]
      exact ⟨by rw [Entry.lowerMiss_state _ hv, if_neg fun h => hmove ⟨h.1, a, h.2⟩], hu, hc, hg⟩
    · rw [State.applyMissLimit, if_neg hnot]
      rfl
    · rw [State.applyMissLimit, if_neg hnot]
      rfl

theorem Configured.gen {s t : State} (hx : Configured s t) (a : Addr) : (t.entry a).gen = (s.entry a).gen := by
  cases hx with
  | store f => rfl
  | sweep v => rfl
  | missLimit v =>
    rw [State.applyMissLimit_entry]
    exact ((s.entry a).lowerMiss_kept v).1

theorem Configured.pending {s t : State} (hx : Configured s t) : t.pending = s.pending := by
  cases hx with
  | store f => rfl
  | sweep v => rfl
  | missLimit v => unfold State.applyMissLimit; dsimp only; split <;> rfl

theorem Configured.tallies {s t : State} (hx : Configured s t) : s.Tallies t := by
  cases hx with
  | store f => exact .inr ⟨rfl, rfl⟩
  | sweep v => exact .inr ⟨rfl, rfl⟩
  | missLimit v hv => exact (s.modConfig fun p => { p with missLimit := v }).applyMissLimit_tallies hv.1

/-! ### Binds -/

theorem State.bindDone_entry (s : State) (a b : Addr) (path : BindPath) (cls : Option Byte) :
    (s.bindDone a path cls).1.entry b =
      if b = a then { s.entry a with state := .present, gen := (s.entry a).gen + 1, miss := 0, cls := cls } else s.entry b := by
  unfold State.bindDone
  rw [State.bumpSerial_entry, State.entry_setEntry]

/-- A completed bind changes the generation of the chosen entry alone, which becomes PRESENT at the next one (R4). -/
theorem State.BindsBinding.gen {s t : State} (h : s.BindsBinding t) {a : Addr} (hg : (t.entry a).gen ≠ (s.entry a).gen) :
    s.engine.chosen = some a ∧ (t.entry a).state = .present ∧ (t.entry a).gen = (s.entry a).gen + 1 := by
  obtain ⟨b, path, cls, u, hu, hb, -, ht⟩ := h
  have hentry := u.bindDone_entry b a path cls
  have hgen : (t.entry a).gen = _ := (ht.gen a).trans (congrArg Entry.gen hentry)
  by_cases hab : a = b
  · subst hab
    have hstate : (t.entry a).state = _ :=
      (congrArg Prod.fst (congrFun (congrArg Prod.fst ht.counted) a)).trans (congrArg Entry.state hentry)
    rw [if_pos rfl] at hgen hstate
    exact ⟨hb, hstate, by rw [hgen, hu.gen]⟩
  · rw [if_neg hab] at hgen
    exact absurd (hgen.trans (hu.gen a)) hg

theorem State.BindsBinding.kept {s t : State} (h : s.BindsBinding t) : t.pending = s.pending ∧ t.config = s.config := by
  obtain ⟨b, path, cls, u, hu, -, -, ht⟩ := h
  exact ⟨ht.pending.trans hu.pending, ht.config.trans hu.config⟩

/-- A completed bind moves the serial once (R3, R15). -/
theorem State.BindsBinding.tallies {s t : State} (h : s.BindsBinding t) (hl : s.DirectoryLaw) : s.Tallies t := by
  obtain ⟨b, path, cls, u, hu, -, hbind, ht⟩ := h
  refine .between hu (.of_state (a := b) ?_ rfl) ht
  rw [State.bindDone_entry, if_pos rfl, hbind hl]
  simp

/-! ### The rules -/

/-- Settles O1. -/
theorem stepRunsTheFrontCommand : Obligations.StepRunsTheFrontCommand := fun _ _ _ => rfl

/-- Settles O3: every effect of a command keeps the queue, by what it changes of the directory. -/
theorem commandsLeaveTheWaitingQueue : Obligations.CommandsLeaveTheWaitingQueue := by
  intro c s t ht
  rcases (exec_event ht).changes with ⟨straps, -, rfl⟩ | ⟨h, r, rest, u, o, b, -, -, -, -, hx, rfl⟩ | ⟨n, b, h⟩ | ⟨-, h⟩
  · exact (State.beginLineReset_changes (law := True) (s.powerOn straps) .powerOn []).steady.pending
  · exact (State.Silent.answer (.refl u)).pending.trans hx.pending
  · exact h.steady.pending
  · exact h.kept.1

/-- Settles O53: only a completed bind is no steady change, and it writes the chosen entry. -/
theorem generationChangesOnlyByABind : Obligations.GenerationChangesOnlyByABind := by
  intro c s t a ht hg
  rcases (exec_event ht).changes with ⟨straps, rfl, -⟩ | ⟨h, r, rest, u, o, b, -, -, -, -, hx, rfl⟩ | ⟨n, b, h⟩ | ⟨hc, h⟩
  · exact .inl ⟨straps, rfl⟩
  · exact absurd (((State.Silent.answer (.refl u)).gen a).trans (hx.gen a)) hg
  · exact absurd (h.steady.gen a) hg
  · exact .inr ⟨hc, h.gen hg⟩

/-- Settles O54: a steady change and a completed bind keep the parameters. -/
theorem parametersChangeOnlyByConfigure : Obligations.ParametersChangeOnlyByConfigure := by
  intro c s t ht hp
  rcases (exec_event ht).changes with ⟨straps, rfl, -⟩ | ⟨h, r, rest, u, o, b, hq, hc, hcode, hm, -, -⟩ | ⟨n, b, h⟩ | ⟨-, h⟩
  · exact .inl ⟨straps, rfl⟩
  · exact .inr ⟨h, r, rest, hq, hc, hcode, hm⟩
  · exact absurd h.steady.config hp
  · exact absurd h.kept.2 hp

/-- Settles O55: each command makes at most one change that is counted, and that change moves the serial once. -/
theorem serialCountsDirectoryChanges : Obligations.SerialCountsDirectoryChanges := by
  intro c s t hl hc ht
  have htallies : s.Tallies t := by
    rcases (exec_event ht).changes with ⟨straps, rfl, -⟩ | ⟨h, r, rest, u, o, b, -, -, -, -, hx, rfl⟩ | ⟨n, b, h⟩ | ⟨-, h⟩
    · exact absurd rfl (hc straps)
    · exact .between (.taken (.refl s)) hx.tallies (.answer (.refl u))
    · have hchange := h.tallies hl
      exact hchange
    · exact h.tallies hl
  rcases htallies with ⟨hne, hserial⟩ | ⟨heq, hserial⟩
  · exact ⟨fun _ => hserial, fun he => absurd he hne⟩
  · exact ⟨fun hne => absurd heq hne, fun _ => hserial⟩

end Sys2Proof.Machine
end

section
/-! SUPPORT. The laws of the directory's tables: the parameters' ranges, the fields of the entries, and the uids of entries and
recall records (R1, R2, R10, R12, R166); and what each change of the directory keeps of them. -/

namespace Sys2Proof.Machine

set_option Elab.async false

open Sys2Proof

/-- The laws of the parameters, of the entries and of the uids (R1, R2, R10, R12, R166). -/
structure State.TableLaw (s : State) : Prop where
  params : s.config.Wf
  entries : ∀ a, (s.entry a).Wf s.config.missLimit
  uids : s.UidLaw

theorem State.DirectoryLaw.table {s : State} (hl : s.DirectoryLaw) : s.TableLaw := ⟨hl.params, hl.entries, hl.uids⟩

/-- The tables' laws read the parameters, the entries and the recall list alone. -/
theorem State.TableLaw.congr {s t : State} (hl : s.TableLaw) (hc : t.config = s.config := by rfl)
    (he : ∀ a, t.entry a = s.entry a := by intro; rfl) (hr : t.dir.recalls = s.dir.recalls := by rfl) : t.TableLaw where
  params := hc ▸ hl.params
  entries a := by rw [he, hc]; exact hl.entries a
  uids := by simpa only [State.UidLaw, he, hr] using hl.uids

section
variable {s : State} {a : Addr} {e : Entry}

theorem Entry.Wf.uid_none_iff {n : Nat} (h : e.Wf n) : e.uid = none ↔ e.state = .free := h.1

theorem Entry.bound_ne_free (hb : e.bound = true) : e.state ≠ .free := by
  rcases State.bound_iff.1 hb with h | h <;> simp [h]

theorem Entry.bound_ne_lost (hb : e.bound = true) : e.state ≠ .lost := by
  rcases State.bound_iff.1 hb with h | h <;> simp [h]

/-- An entry that is neither PRESENT nor SUSPECT has no claim and no deferred record (R10, R119). -/
theorem Entry.Wf.unbound {n : Nat} (h : e.Wf n) (hb : e.bound = false) : e.claim = none ∧ e.deferred = none := by
  obtain ⟨-, -, -, -, -, hclaim, hdeferred⟩ := h
  constructor
  · by_contra hc
    simp [hclaim hc] at hb
  · by_contra hc
    simp [hdeferred hc] at hb

theorem Entry.freed_wf (e : Entry) (n : Nat) : e.freed.Wf n := by simp [Entry.Wf, Entry.freed]

/-- An entry rewritten at the uid it holds, a FREE one at its generation too, keeps the tables' laws. -/
theorem State.TableLaw.setEntry (hl : s.TableLaw) (hw : e.Wf s.config.missLimit) (hu : e.uid = (s.entry a).uid)
    (hg : (s.entry a).state = .free → e.gen = (s.entry a).gen) : (s.setEntry a e).TableLaw := by
  obtain ⟨hzero, hrzero, huniq, hlen, hunodup, hanodup, hrfree, hrnot⟩ := hl.uids
  have huid : ∀ b, ((s.setEntry a e).entry b).uid = (s.entry b).uid := fun b => by
    rw [State.entry_setEntry]
    split
    · next hb => rw [hb, hu]
    · rfl
  refine ⟨hl.params, fun b => ?_, ?_⟩
  · rw [State.entry_setEntry]
    split
    · exact hw
    · exact hl.entries b
  · refine ⟨fun b => by rw [huid]; exact hzero b, hrzero, fun b c => by rw [huid, huid]; exact huniq b c, hlen, hunodup, hanodup,
      fun r hr => ?_, fun r hr b => by rw [huid]; exact hrnot r hr b⟩
    obtain ⟨hfree, hgen⟩ := hrfree r hr
    rw [State.entry_setEntry]
    split
    · next hra =>
      rw [hra] at hfree hgen
      refine ⟨hw.uid_none_iff.1 ?_, (hg hfree).trans hgen⟩
      rw [hu]
      exact (hl.entries a).uid_none_iff.2 hfree
    · exact ⟨hfree, hgen⟩

/-- An entry made FREE at its generation keeps the tables' laws. -/
theorem State.TableLaw.freed (hl : s.TableLaw) (a : Addr) : (s.setEntry a (s.entry a).freed).TableLaw := by
  obtain ⟨hzero, hrzero, huniq, hlen, hunodup, hanodup, hrfree, hrnot⟩ := hl.uids
  have huid : ∀ b u, ((s.setEntry a (s.entry a).freed).entry b).uid = some u → (s.entry b).uid = some u := fun b u => by
    rw [State.entry_setEntry]
    split
    · intro h; cases h
    · exact id
  refine ⟨hl.params, fun b => ?_, ?_⟩
  · rw [State.entry_setEntry]
    split
    · exact (s.entry a).freed_wf _
    · exact hl.entries b
  · refine ⟨fun b => ⟨fun h => (hzero b).1 (huid b _ h), fun h => (hzero b).2 (huid b _ h)⟩, hrzero, fun b c hb hbc => ?_, hlen,
      hunodup, hanodup, fun r hr => ?_, fun r hr b h => hrnot r hr b (huid b _ h)⟩
    · obtain ⟨u, hub⟩ := Option.ne_none_iff_exists'.1 hb
      have huc := huid c u (hbc ▸ hub)
      have hub' := huid b u hub
      exact huniq b c (by rw [hub']; simp) (hub'.trans huc.symm)
    · obtain ⟨hfree, hgen⟩ := hrfree r hr
      rw [State.entry_setEntry]
      split
      · next hra => exact ⟨rfl, hra ▸ hgen⟩
      · exact ⟨hfree, hgen⟩

/-- A recall list with records of FREE entries at their generations, whose uids no entry holds, keeps the tables' laws (R12). -/
theorem State.TableLaw.setRecalls (hl : s.TableLaw) {l : List Recall} (hlen : l.length ≤ 24) (hu : (l.map fun r => r.uid).Nodup)
    (ha : (l.map fun r => r.addr).Nodup)
    (hr : ∀ r ∈ l, (r.uid ≠ 0 ∧ r.uid ≠ BitVec.allOnes 48) ∧ ((s.entry r.addr).state = .free ∧ (s.entry r.addr).gen = r.gen) ∧
      ∀ a, (s.entry a).uid ≠ some r.uid) : (s.setRecalls l).TableLaw := by
  obtain ⟨hzero, -, huniq, -⟩ := hl.uids
  exact ⟨hl.params, hl.entries, hzero, fun r h => (hr r h).1, huniq, hlen, hu, ha, fun r h => (hr r h).2.1, fun r h => (hr r h).2.2⟩

/-- A part of the recall list keeps the tables' laws. -/
theorem State.TableLaw.sublist (hl : s.TableLaw) {l : List Recall} (hs : l.Sublist s.dir.recalls) : (s.setRecalls l).TableLaw := by
  obtain ⟨-, hrzero, -, hlen, hunodup, hanodup, hrfree, hrnot⟩ := hl.uids
  exact hl.setRecalls (hs.length_le.trans hlen) (hunodup.sublist (hs.map _)) (hanodup.sublist (hs.map _))
    fun r hr => ⟨hrzero r (hs.subset hr), hrfree r (hs.subset hr), hrnot r (hs.subset hr)⟩

/-! ### Records that join the recall list (R11 to R13, R26) -/

/-- The newest 24 of a list of recall records. -/
def newestRecalls (l : List Recall) : List Recall := l.drop (l.length - 24)

theorem newestRecalls_sublist (l : List Recall) : (newestRecalls l).Sublist l := List.drop_sublist _ _

theorem length_newestRecalls_le (l : List Recall) : (newestRecalls l).length ≤ 24 := by
  rw [newestRecalls, List.length_drop]
  omega

theorem newestRecalls_of_le {l : List Recall} (h : l.length ≤ 24) : newestRecalls l = l := by
  rw [newestRecalls, Nat.sub_eq_zero_of_le h, List.drop_zero]

/-- A record joins the newest 24 at the newest end, of which the oldest goes (R13). -/
theorem joinRecall_newestRecalls (l : List Recall) (r : Recall) : joinRecall (newestRecalls l) r = newestRecalls (l ++ [r]) := by
  have hlen : (newestRecalls l).length = min l.length 24 := by rw [newestRecalls, List.length_drop]; omega
  unfold joinRecall
  simp only [Config.recallCapacity, hlen]
  split
  · next hfull =>
    have hmin : min l.length 24 = 24 := by omega
    rw [hmin, newestRecalls, newestRecalls, List.drop_drop, List.length_append, List.length_singleton,
      List.drop_append_of_le_length (by omega)]
    congr 2
    omega
  · rw [newestRecalls_of_le (by omega), newestRecalls_of_le (by simp; omega)]

theorem joinEntry_newestRecalls (l : List Recall) (e : Entry) (a : Addr) :
    joinEntry (newestRecalls l) e a = newestRecalls (l ++ (e.recall a).toList) := by
  unfold joinEntry
  cases h : e.recall a with
  | none => simp
  | some r => exact joinRecall_newestRecalls l r

/-- The records of several entries, joining in their order (R26). -/
theorem foldl_joinEntry (s : State) (as : List Addr) {l : List Recall} (hl : l.length ≤ 24) :
    as.foldl (fun l a => joinEntry l (s.entry a) a) l = newestRecalls (l ++ as.filterMap fun a => (s.entry a).recall a) := by
  have hgen : ∀ l : List Recall, as.foldl (fun l a => joinEntry l (s.entry a) a) (newestRecalls l) =
      newestRecalls (l ++ as.filterMap fun a => (s.entry a).recall a) := by
    induction as with
    | nil => simp
    | cons a as ih =>
      intro l
      rw [List.foldl_cons, joinEntry_newestRecalls, ih, List.append_assoc, List.filterMap_cons]
      cases (s.entry a).recall a <;> rfl
  rw [← newestRecalls_of_le hl, hgen, newestRecalls_of_le hl]

theorem Entry.recall_eq_some {a : Addr} {r : Recall} :
    e.recall a = some r ↔ e.uid = some r.uid ∧ r.addr = a ∧ r.gen = e.gen := by
  unfold Entry.recall
  cases r
  simp only [Option.map_eq_some_iff, Recall.mk.injEq]
  constructor
  · rintro ⟨u, hu, rfl, rfl, rfl⟩; exact ⟨hu, rfl, rfl⟩
  · rintro ⟨hu, rfl, rfl⟩; exact ⟨_, hu, rfl, rfl, rfl⟩

/-- The recall list and the records of entries that are not FREE name distinct uids and distinct addresses. -/
theorem State.TableLaw.nodup_with_records (hl : s.TableLaw) {as : List Addr} (hn : as.Nodup)
    (hbusy : ∀ a ∈ as, (s.entry a).state ≠ .free) :
    ((s.dir.recalls ++ as.filterMap fun a => (s.entry a).recall a).map fun r => r.uid).Nodup ∧
    ((s.dir.recalls ++ as.filterMap fun a => (s.entry a).recall a).map fun r => r.addr).Nodup := by
  obtain ⟨-, -, huniq, -, hunodup, hanodup, hrfree, hrnot⟩ := hl.uids
  have hmem : ∀ {r}, r ∈ as.filterMap (fun a => (s.entry a).recall a) → r.addr ∈ as ∧ (s.entry r.addr).uid = some r.uid := by
    intro r hr
    obtain ⟨a, ha, har⟩ := List.mem_filterMap.1 hr
    obtain ⟨hu, rfl, -⟩ := Entry.recall_eq_some.1 har
    exact ⟨ha, hu⟩
  have hnew : ((as.filterMap fun a => (s.entry a).recall a).map fun r => r.addr).Nodup := by
    rw [List.map_filterMap]
    refine hn.filterMap fun a b c ha hb => ?_
    simp only [Option.mem_def, Option.map_eq_some_iff] at ha hb
    obtain ⟨x, hx, rfl⟩ := ha
    obtain ⟨y, hy, hxy⟩ := hb
    rw [← (Entry.recall_eq_some.1 hx).2.1, ← (Entry.recall_eq_some.1 hy).2.1, hxy]
  have hdistinct : (as.filterMap fun a => (s.entry a).recall a).Nodup := hnew.of_map _
  constructor
  · rw [List.map_append]
    refine hunodup.append (hdistinct.map_on fun x hx y hy hxy => ?_) ?_
    · have hxu := (hmem hx).2
      have hyu := (hmem hy).2
      have haddr : x.addr = y.addr := huniq _ _ (by rw [hxu]; simp) (by rw [hxu, hyu, hxy])
      exact List.inj_on_of_nodup_map hnew hx hy haddr
    · rw [List.disjoint_iff_ne]
      rintro u hu v hv rfl
      obtain ⟨x, hx, rfl⟩ := List.mem_map.1 hu
      obtain ⟨y, hy, hxy⟩ := List.mem_map.1 hv
      exact hrnot x hx y.addr (by rw [(hmem hy).2, hxy])
  · rw [List.map_append]
    refine hanodup.append hnew ?_
    rw [List.disjoint_iff_ne]
    rintro a ha b hb rfl
    obtain ⟨x, hx, rfl⟩ := List.mem_map.1 ha
    obtain ⟨y, hy, hxy⟩ := List.mem_map.1 hb
    exact hbusy y.addr (hmem hy).1 (hxy ▸ (hrfree x hx).1)

/-- Entries made FREE that leave their records keep the tables' laws: `t` is the state with them FREE at their generations, before
the records join. -/
theorem State.TableLaw.recallFreed (hl : s.TableLaw) {t : State} (ht : t.TableLaw) {as : List Addr} (hn : as.Nodup)
    (hbusy : ∀ a ∈ as, (s.entry a).state ≠ .free) (hgen : ∀ a, (t.entry a).gen = (s.entry a).gen)
    (hfree : ∀ a ∈ as, (t.entry a).state = .free)
    (hrest : ∀ a, a ∉ as → (t.entry a).state = (s.entry a).state ∧ (t.entry a).uid = (s.entry a).uid) :
    (t.setRecalls (newestRecalls (s.dir.recalls ++ as.filterMap fun a => (s.entry a).recall a))).TableLaw := by
  obtain ⟨hzero, hrzero, huniq, -, -, -, hrfree, hrnot⟩ := hl.uids
  obtain ⟨hu, ha⟩ := hl.nodup_with_records hn hbusy
  have hsub := newestRecalls_sublist (s.dir.recalls ++ as.filterMap fun a => (s.entry a).recall a)
  refine ht.setRecalls (length_newestRecalls_le _) (hu.sublist (hsub.map _)) (ha.sublist (hsub.map _)) fun r hr => ?_
  have hnone : ∀ a ∈ as, (t.entry a).uid = none := fun a h => (ht.entries a).uid_none_iff.2 (hfree a h)
  rcases List.mem_append.1 (hsub.subset hr) with hold | hnew
  · obtain ⟨hfr, hg⟩ := hrfree r hold
    have hout : r.addr ∉ as := fun h => hbusy _ h hfr
    refine ⟨hrzero r hold, ⟨(hrest _ hout).1.trans hfr, (hgen _).trans hg⟩, fun b hb => ?_⟩
    by_cases hin : b ∈ as
    · rw [hnone b hin] at hb
      cases hb
    · exact hrnot r hold b ((hrest b hin).2 ▸ hb)
  · obtain ⟨a, hin, har⟩ := List.mem_filterMap.1 hnew
    obtain ⟨hau, rfl, hg⟩ := Entry.recall_eq_some.1 har
    refine ⟨⟨fun h => (hzero _).1 (h ▸ hau), fun h => (hzero _).2 (h ▸ hau)⟩, ⟨hfree _ hin, (hgen _).trans hg.symm⟩, fun b hb => ?_⟩
    by_cases hbin : b ∈ as
    · rw [hnone b hbin] at hb
      cases hb
    · rw [(hrest b hbin).2] at hb
      exact hbin (huniq r.addr b (by rw [hau]; simp) (hau.trans hb.symm) ▸ hin)

/-- An entry that is not FREE becomes FREE with its record (R11). -/
theorem State.TableLaw.freeRecorded (hl : s.TableLaw) (hb : (s.entry a).state ≠ .free) : (s.freeRecorded a).TableLaw := by
  have hjoin : joinEntry s.dir.recalls (s.entry a) a =
      newestRecalls (s.dir.recalls ++ [a].filterMap fun a => (s.entry a).recall a) :=
    foldl_joinEntry s [a] hl.uids.2.2.2.1
  have h := hl.recallFreed (hl.freed a) (List.nodup_singleton a) (by simpa using hb) (fun b => by
      rw [State.entry_setEntry]
      split
      · next hba => rw [hba]; rfl
      · rfl) (by simp [Entry.freed]) fun b hba => by
    rw [State.entry_setEntry_ne _ (by simpa using hba)]
    exact ⟨rfl, rfl⟩
  rw [← hjoin] at h
  refine h.congr ?_ (fun b => ?_) ?_
  · unfold State.freeRecorded State.wantIfParked
    split <;> rfl
  · unfold State.freeRecorded
    rw [State.wantIfParked_entry]
    rfl
  · unfold State.freeRecorded
    rw [State.wantIfParked_dir]
    rfl

theorem Entry.Wf.dropped {n : Nat} (h : e.Wf n) : Entry.Wf { e with claim := none, deferred := none } n :=
  let ⟨h1, h2, h3, h4, h5, _, _⟩ := h
  ⟨h1, h2, h3, h4, h5, fun h => absurd rfl h, fun h => absurd rfl h⟩

/-- The directory after a line reset (R26): the recall list with the newest of the records, every entry FREE, nothing parked. -/
theorem State.resetDirectory_recalls (s : State) (hlen : s.dir.recalls.length ≤ 24) : s.resetDirectory.dir.recalls =
    newestRecalls (s.dir.recalls ++ s.busyAddrs.filterMap fun a => (s.entry a).recall a) := by
  rw [← foldl_joinEntry s _ hlen]
  unfold State.resetDirectory
  dsimp only
  split <;> rfl

theorem State.mem_busyAddrs {s : State} {a : Addr} : a ∈ s.busyAddrs ↔ (s.entry a).state ≠ .free := by
  simp [State.busyAddrs]

theorem State.nodup_busyAddrs (s : State) : s.busyAddrs.Nodup := (List.nodup_finRange 62).filter _

/-- A line reset makes every entry FREE. -/
theorem State.resetDirectory_state (s : State) (a : Addr) : (s.resetDirectory.entry a).state = .free := by
  rw [State.resetDirectory_entry]
  split
  · assumption
  · rfl

theorem State.TableLaw.resetDirectory (hl : s.TableLaw) : s.resetDirectory.TableLaw := by
  let t : State := s.mapEntries fun e => if e.state = .free then { e with claim := none, deferred := none } else e.freed
  have hentry : ∀ a, t.entry a = if (s.entry a).state = .free then { s.entry a with claim := none, deferred := none }
      else (s.entry a).freed := fun a => s.entry_mapEntries _ a
  have huid : ∀ a, (t.entry a).uid = none ∧ (t.entry a).state = .free ∧ (t.entry a).gen = (s.entry a).gen := fun a => by
    rw [hentry]
    split
    · next hf => exact ⟨(hl.entries a).uid_none_iff.2 hf, hf, rfl⟩
    · exact ⟨rfl, rfl, rfl⟩
  have ht : t.TableLaw := by
    obtain ⟨-, hrzero, -, hlen, hunodup, hanodup, hrfree, -⟩ := hl.uids
    refine ⟨hl.params, fun a => ?_, fun a => by simp [huid], hrzero, fun a b h => absurd (huid a).1 h, hlen, hunodup, hanodup,
      fun r hr => ⟨(huid r.addr).2.1, (huid r.addr).2.2.trans (hrfree r hr).2⟩, fun r hr a => by simp [huid]⟩
    rw [hentry]
    split
    · exact (hl.entries a).dropped
    · exact (s.entry a).freed_wf _
  have h := hl.recallFreed ht s.nodup_busyAddrs (fun a => State.mem_busyAddrs.1) (fun a => (huid a).2.2) (fun a _ => (huid a).2.1)
    fun a hout => by
      have hf : (s.entry a).state = .free := by simpa [State.mem_busyAddrs] using hout
      exact ⟨(huid a).2.1.trans hf.symm, (huid a).1.trans ((hl.entries a).uid_none_iff.2 hf).symm⟩
  refine h.congr s.resetDirectory_steady.config (fun a => ?_) (s.resetDirectory_recalls hl.uids.2.2.2.1)
  rw [State.resetDirectory_entry]
  exact (hentry a).symm

/-! ### Entries taken for a round (R17 to R19) -/

/-- A FREE entry taken for a uid that neither entries nor the records left hold. -/
theorem State.TableLaw.takeFree (hl : s.TableLaw) {u : Uid} {l : List Recall} (hs : l.Sublist s.dir.recalls)
    (hf : (s.entry a).state = .free) (hla : ∀ r ∈ l, r.addr ≠ a) (hlu : ∀ r ∈ l, r.uid ≠ u) (hu : ∀ b, (s.entry b).uid ≠ some u)
    (hz : u ≠ 0 ∧ u ≠ BitVec.allOnes 48) : ((s.setRecalls l).takeFree a u).TableLaw := by
  obtain ⟨hzero, hrzero, huniq, hlen, hunodup, hanodup, hrfree, hrnot⟩ := (hl.sublist hs).uids
  let t := (s.setRecalls l).takeFree a u
  have hentry : ∀ b, t.entry b = if b = a then { s.entry a with state := .binding, uid := some u } else s.entry b := fun b =>
    State.entry_setEntry _ _ _ _
  have hw := hl.entries a
  refine ⟨hl.params, fun b => ?_, fun b => ?_, hrzero, fun b c => ?_, hlen, hunodup, hanodup, fun r hr => ?_, fun r hr b => ?_⟩
  · rw [hentry]
    split
    · obtain ⟨hclaim, hdeferred⟩ := hw.unbound (by simp [Entry.bound, hf])
      obtain ⟨-, hcls, hmiss, -, hquar, -, -⟩ := hw
      have hq : (s.entry a).quarantine = none := by
        by_contra h
        exact absurd (hquar.1 h) (by simp [hf])
      simp [Entry.Wf, hcls (.inl hf), hmiss (by simp [hf]), hq, hclaim, hdeferred]
    · exact hl.entries b
  · rw [hentry]
    split
    · simpa using hz
    · exact hzero b
  · rw [hentry, hentry]
    split
    · next hb =>
      split
      · next hc => exact fun _ _ => hb.trans hc.symm
      · exact fun _ h => absurd h.symm (hu c)
    · next hb =>
      split
      · exact fun _ h => absurd h (hu b)
      · exact huniq b c
  · rw [hentry, if_neg (hla r hr)]
    exact hrfree r hr
  · rw [hentry]
    split
    · exact fun h => hlu r hr (Option.some.inj h).symm
    · exact hrnot r hr b

/-! ### Lowered miss limits (R9) -/

theorem Entry.Wf.lowerMiss {n v : Nat} (h : e.Wf n) (hv : 1 ≤ v) : (e.lowerMiss v).Wf v := by
  obtain ⟨huid, hcls, hmiss, hsus, hquar, hclaim, hdeferred⟩ := h
  unfold Entry.lowerMiss
  by_cases ho : e.overLimit v = true
  · rw [if_pos ho]
    simp only [Entry.overLimit, Bool.and_eq_true, beq_iff_eq, decide_eq_true_eq] at ho
    have hbound : e.bound = true := State.bound_iff.2 (.inr ho.1)
    have hu : e.uid ≠ none := fun h => by simp [huid.1 h] at ho
    have hq : e.quarantine = none := by
      by_contra h
      simp [hquar.1 h] at ho
    split
    · next hone => simp [Entry.Wf, hu, hq, Entry.bound, hone]
    · next hmore => simp [Entry.Wf, hu, hq, Entry.bound]; omega
  · rw [if_neg ho]
    refine ⟨huid, hcls, hmiss, fun hs => ⟨(hsus hs).1, ?_⟩, hquar, hclaim, hdeferred⟩
    simp only [Entry.overLimit, hs, beq_self_eq_true, Bool.true_and, decide_eq_true_eq] at ho
    omega

theorem State.TableLaw.missLimit (hl : s.TableLaw) {v : Nat} (hv : 1 ≤ v ∧ v ≤ 7) :
    ((s.modConfig fun p => { p with missLimit := v }).applyMissLimit v).TableLaw := by
  let t := (s.modConfig fun p => { p with missLimit := v }).applyMissLimit v
  have hentry : ∀ a, t.entry a = (s.entry a).lowerMiss v := fun a => State.applyMissLimit_entry _ v a
  have hconfig : t.config = { s.config with missLimit := v } := by
    show State.config (State.applyMissLimit _ v) = _
    unfold State.applyMissLimit; dsimp only; split <;> rfl
  have hrecalls : t.dir.recalls = s.dir.recalls := by
    show (State.applyMissLimit _ v).dir.recalls = _
    unfold State.applyMissLimit; dsimp only; split <;> rfl
  have huid : ∀ a, (t.entry a).uid = (s.entry a).uid := fun a => by
    rw [hentry]; unfold Entry.lowerMiss; split <;> rfl
  have hgen : ∀ a, (t.entry a).gen = (s.entry a).gen := fun a => by
    rw [hentry]; unfold Entry.lowerMiss; split <;> rfl
  have hfree : ∀ a, (s.entry a).state = .free → (t.entry a).state = .free := fun a hf => by
    rw [hentry, Entry.lowerMiss, if_neg (by simp [Entry.overLimit, hf])]; exact hf
  obtain ⟨⟨hw, hr, hm, hrest⟩, hentries, hz, hrz, huniq, hlen, hnu, hna, hrf, hrn⟩ := hl
  refine ⟨?_, fun a => ?_, ?_⟩
  · rw [hconfig]; exact ⟨hw, hr, hv, hrest⟩
  · rw [hconfig, hentry]; exact (hentries a).lowerMiss hv.1
  · refine ⟨fun a => ?_, ?_, fun a b => ?_, ?_, ?_, ?_, fun r hr => ?_, fun r hr a => ?_⟩
    · rw [huid]; exact hz a
    · rw [hrecalls]; exact hrz
    · rw [huid, huid]; exact huniq a b
    · rw [hrecalls]; exact hlen
    · rw [hrecalls]; exact hnu
    · rw [hrecalls]; exact hna
    · rw [hrecalls] at hr
      exact ⟨hfree _ (hrf r hr).1, (hgen _).trans (hrf r hr).2⟩
    · rw [hrecalls] at hr
      rw [huid]; exact hrn r hr a

end

end Sys2Proof.Machine
end

section
/-! SUPPORT. Contention on the line (R41): what the slots sample and who has not lost. -/

namespace Sys2Proof.Machine

set_option Elab.async false

open Sys2Proof

/-! ### The sampled levels as a word (R41, R52) -/

/-- Bits fed in one after another stand in the word in their order, the last one lowest. -/
theorem getLsbD_foldl_shiftConcat (bs : List Bool) (x : BitVec 48) {i : Nat} (hi : i < 48) :
    (bs.foldl (fun x b => x.shiftConcat b) x).getLsbD i =
      if i < bs.length then bs.reverse.getD i false else x.getLsbD (i - bs.length) := by
  induction bs generalizing x with
  | nil => rfl
  | cons b bs ih =>
    rw [List.foldl_cons, ih]
    rcases Nat.lt_trichotomy i bs.length with h | h | h
    · simp [h, Nat.lt_succ_of_lt h]
    · simp [h]
    · rw [if_neg (by omega), if_neg (by simp; omega), BitVec.getLsbD_shiftConcat]
      simp [show i - bs.length < 48 by omega, show i - bs.length ≠ 0 by omega, Nat.sub_sub]

/-- The 48 bits of a word, most significant first, spell it. -/
theorem foldl_shiftConcat_bits (m : BitVec 48) :
    ((List.range 48).reverse.map m.getLsbD).foldl (fun x b => x.shiftConcat b) 0 = m := by
  refine BitVec.eq_of_getLsbD_eq fun i hi => ?_
  rw [getLsbD_foldl_shiftConcat _ _ hi]
  simp [hi]

/-- Zeros alone spell all-zeros. -/
theorem foldl_shiftConcat_zeros (n : Nat) :
    (List.replicate n false).foldl (fun x b => x.shiftConcat b) (0 : BitVec 48) = 0 := by
  induction n with
  | zero => rfl
  | succ n ih => exact ih

/-! ### The slots of a free line -/

/-- A bit of a uid as a remainder of the word's upper part. -/
theorem getLsbD_eq_div (u : Uid) (n : Nat) : u.getLsbD n = decide (u.toNat / 2 ^ n % 2 = 1) := by
  rw [BitVec.getLsbD, Nat.testBit_eq_decide_div_mod_eq]

section
variable {cs : List Uid} {m : Uid} {n : Nat}

/-- The contenders agree with `m`, the smallest of them, in every bit above the slots that are left. -/
structure Agreed (cs : List Uid) (m : Uid) (n : Nat) : Prop where
  mem : m ∈ cs
  least : ∀ u ∈ cs, m.toNat ≤ u.toNat
  upper : ∀ u ∈ cs, u.toNat / 2 ^ n = m.toNat / 2 ^ n

theorem div_two_pow_succ (x n : Nat) : x / 2 ^ (n + 1) = x / 2 ^ n / 2 := by
  rw [pow_succ, Nat.div_div_eq_div_mul]

/-- A contender's bit in the slot is the smallest uid's, or 1 where that one's is 0. -/
theorem Agreed.bit_of_mem (h : Agreed cs m (n + 1)) {u : Uid} (hu : u ∈ cs) (hm : m.getLsbD n = true) : u.getLsbD n = true := by
  have hup := h.upper u hu
  have hle : m.toNat / 2 ^ n ≤ u.toNat / 2 ^ n := Nat.div_le_div_right (h.least u hu)
  rw [div_two_pow_succ, div_two_pow_succ] at hup
  rw [getLsbD_eq_div, decide_eq_true_eq] at hm ⊢
  omega

/-- A slot of a free line samples the smallest uid's bit. -/
theorem Agreed.slotLevel (h : Agreed cs m (n + 1)) (hn : n < 48) : slotLevel (BitVec.allOnes 48) cs n = m.getLsbD n := by
  have hfree : (BitVec.allOnes 48).getLsbD n = true := by
    rw [BitVec.getLsbD_allOnes]; exact decide_eq_true hn
  cases hm : m.getLsbD n with
  | true =>
    refine List.all_eq_true.2 fun b hb => ?_
    rcases List.mem_cons.1 hb with rfl | hb
    · exact hfree
    · obtain ⟨u, hu, rfl⟩ := List.mem_map.1 hb
      exact h.bit_of_mem hu hm
  | false =>
    refine List.all_eq_false.2 ⟨m.getLsbD n, List.mem_cons_of_mem _ (List.mem_map_of_mem h.mem), by simp [hm]⟩

/-- Those that stay after a slot are those with the smallest uid's bit in it. -/
theorem Agreed.stayers (h : Agreed cs m (n + 1)) (hn : n < 48) :
    stayers (BitVec.allOnes 48) cs n = cs.filter fun u => u.getLsbD n == m.getLsbD n := by
  unfold Machine.stayers
  rw [h.slotLevel hn]
  cases hm : m.getLsbD n with
  | true => exact (List.filter_eq_self.2 fun u hu => by simp [h.bit_of_mem hu hm]).symm
  | false => simp

/-- After the slot the contenders agree in its bit too. -/
theorem Agreed.next (h : Agreed cs m (n + 1)) (hn : n < 48) : Agreed (Machine.stayers (BitVec.allOnes 48) cs n) m n := by
  rw [h.stayers hn]
  refine ⟨by simp [h.mem], fun u hu => h.least u (List.mem_of_mem_filter hu), fun u hu => ?_⟩
  obtain ⟨hu, hb⟩ := List.mem_filter.1 hu
  have hup := h.upper u hu
  rw [div_two_pow_succ, div_two_pow_succ] at hup
  rw [beq_iff_eq, getLsbD_eq_div, getLsbD_eq_div, decide_eq_decide] at hb
  omega

/-- The slots that are left sample the smallest uid's bits, and leave its holders alone. -/
theorem Agreed.contend (h : Agreed cs m n) (hn : n ≤ 48) :
    contend (BitVec.allOnes 48) n cs = ((List.range n).reverse.map m.getLsbD, cs.filter fun u => u == m) := by
  induction n generalizing cs with
  | zero =>
    have hall : ∀ u ∈ cs, (u == m) = true := fun u hu => by
      have hup := h.upper u hu
      rw [pow_zero, Nat.div_one, Nat.div_one] at hup
      exact beq_iff_eq.2 (BitVec.eq_of_toNat_eq hup)
    rw [List.filter_eq_self.2 hall]
    rfl
  | succ n ih =>
    have hleft : (Machine.stayers (BitVec.allOnes 48) cs n).filter (fun u => u == m) = cs.filter fun u => u == m := by
      rw [h.stayers hn, List.filter_filter]
      refine List.filter_congr fun u _ => ?_
      by_cases hu : u = m <;> simp [hu]
    unfold Machine.contend
    rw [ih (h.next hn) (by omega), hleft, h.slotLevel hn, List.range_succ, List.reverse_append]
    rfl

/-- At the first slot no bit has been sampled yet. -/
theorem Agreed.first (hm : m ∈ cs) (hl : ∀ u ∈ cs, m.toNat ≤ u.toNat) : Agreed cs m 48 :=
  ⟨hm, hl, fun u _ => by rw [Nat.div_eq_of_lt u.isLt, Nat.div_eq_of_lt m.isLt]⟩

/-- Of distinct contenders one holds the uid `m`. -/
theorem filter_eq_singleton (hm : m ∈ cs) (hn : cs.Nodup) : (cs.filter fun u => u == m) = [m] := by
  rw [List.filter_beq, List.count_eq_one_of_mem hn hm]
  rfl

/-! ### The slots of a line held low -/

/-- Every slot of a line held low samples 0. -/
theorem slotLevel_held_low (cs : List Uid) (n : Nat) : slotLevel 0 cs n = false := by simp [slotLevel, wired]

theorem contend_held_low_sample (n : Nat) (cs : List Uid) : (contend 0 n cs).1 = List.replicate n false := by
  induction n generalizing cs with
  | zero => rfl
  | succ n ih => simp only [Machine.contend, ih, slotLevel_held_low, List.replicate_succ]

/-- Who has not lost on a line held low holds 0 in every slot. -/
theorem mem_contend_held_low {u : Uid} (hu : u ∈ (contend 0 n cs).2) : u ∈ cs ∧ ∀ i < n, u.getLsbD i = false := by
  induction n generalizing cs with
  | zero => exact ⟨hu, by simp⟩
  | succ n ih =>
    obtain ⟨hs, hlow⟩ := ih hu
    rw [Machine.stayers, slotLevel_held_low, if_neg Bool.false_ne_true, List.mem_filter] at hs
    refine ⟨hs.1, fun i hi => ?_⟩
    rcases Nat.lt_succ_iff_lt_or_eq.1 hi with h | rfl
    · exact hlow i h
    · simpa using hs.2

end

/-- With nobody pulling FDA low every slot is sampled 1. -/
theorem contend_nobody (n : Nat) (hn : n ≤ 48) :
    contend (BitVec.allOnes 48) n [] = ((List.range n).reverse.map (BitVec.allOnes 48).getLsbD, []) := by
  induction n with
  | zero => rfl
  | succ n ih =>
    have hlevel : slotLevel (BitVec.allOnes 48) [] n = (BitVec.allOnes 48).getLsbD n := by simp [slotLevel, wired]
    have hstay : stayers (BitVec.allOnes 48) [] n = [] := by simp [stayers]
    unfold contend
    rw [hstay, ih (by omega), hlevel, List.range_succ, List.reverse_append]
    rfl

/-- Settles O59: slot by slot, the level sampled is the smallest uid's bit and those that hold another lose; on a line held low
every level is 0. -/
theorem contentionYieldsTheSmallestUid : Obligations.ContentionYieldsTheSmallestUid := by
  refine ⟨⟨?_, ?_⟩, fun cs m hm hl => ⟨?_, fun hn => ?_⟩, fun cs => ⟨?_, fun hz => ?_⟩⟩
  · rw [contentionSample, contend_nobody 48 (by omega)]
    exact foldl_shiftConcat_bits _
  · rw [contentionLeft, contend_nobody 48 (by omega)]
  · rw [contentionSample, (Agreed.first hm hl).contend (by omega)]
    exact foldl_shiftConcat_bits m
  · rw [contentionLeft, (Agreed.first hm hl).contend (by omega)]
    exact filter_eq_singleton hm hn
  · rw [contentionSample, contend_held_low_sample]
    exact foldl_shiftConcat_zeros 48
  · refine List.eq_nil_iff_forall_not_mem.2 fun u hu => ?_
    obtain ⟨hu, hlow⟩ := mem_contend_held_low hu
    exact hz u hu (BitVec.eq_of_getLsbD_eq fun i hi => by simp [hlow i hi])

end Sys2Proof.Machine
end

section
/-! SUPPORT. The fields of command tokens, answers and receipts (R34 to R36, Section 12.5), and the bytes of items (Sections 12.3 and
12.4). -/

namespace Sys2Proof.Machine

set_option Elab.async false

open Sys2Proof

/-! ### Words and their fields -/

/-- Two words joined of parts of the same widths are equal when their parts are. -/
theorem append_eq_append_iff {v w : Nat} {x x' : BitVec v} {y y' : BitVec w} : x ++ y = x' ++ y' ↔ x = x' ∧ y = y' := by
  refine ⟨fun h => ⟨?_, ?_⟩, fun ⟨hx, hy⟩ => hx ▸ hy ▸ rfl⟩
  · simpa only [BitVec.extractLsb'_append_eq_left] using congrArg (BitVec.extractLsb' w v) h
  · simpa only [BitVec.extractLsb'_append_eq_right] using congrArg (BitVec.extractLsb' 0 w) h

theorem eq_one_iff_getLsbD (x : BitVec 1) : x = 1#1 ↔ x.getLsbD 0 = true := by revert x; decide

/-- The 37 bits of a command token after its start bit are its fields. -/
theorem setWidth_eq_token_fields (b : BitVec 38) : b.setWidth 37 =
    commandBody (tokenAddress b) (tokenCode b) (tokenArgument b) ++ tokenCheck b ++ b.extractLsb' 0 1 := by
  have join (start len len' : Nat) : b.extractLsb' (start + len) len' ++ b.extractLsb' start len = b.extractLsb' start (len' + len) :=
    BitVec.extractLsb'_append_extractLsb'_eq_extractLsb' rfl
  unfold commandBody tokenAddress tokenCode tokenArgument tokenCheck
  rw [join 27 4 6, join 9 18 10, join 1 8 28, join 0 1 36]
  exact BitVec.setWidth_eq_extractLsb' (by omega)

theorem setWidth_commandToken (address : BitVec 6) (code : BitVec 4) (argument : BitVec 18) :
    (commandToken address code argument).setWidth 37 =
      commandBody address code argument ++ crc8 (bitsOf (commandBody address code argument)) ++ 1#1 := by
  refine BitVec.eq_of_getLsbD_eq fun i hi => ?_
  simp only [commandToken, BitVec.getLsbD_setWidth, BitVec.getLsbD_append]
  simp [hi, show i - 1 - 8 < 28 by omega]

theorem commandBody_eq_iff {address address' : BitVec 6} {code code' : BitVec 4} {argument argument' : BitVec 18} :
    commandBody address code argument = commandBody address' code' argument' ↔
      address = address' ∧ code = code' ∧ argument = argument' := by
  unfold commandBody
  exact append_eq_append_iff.trans ((and_congr_left' append_eq_append_iff).trans and_assoc)

/-- The bits after the start bit are the encoding of a command exactly when the fields, the check code and the end bit are. -/
theorem eq_commandToken_iff {b : BitVec 38} {address : BitVec 6} {code : BitVec 4} {argument : BitVec 18} :
    b.setWidth 37 = (commandToken address code argument).setWidth 37 ↔
      (tokenAddress b = address ∧ tokenCode b = code ∧ tokenArgument b = argument) ∧
      tokenCheck b = crc8 (bitsOf (commandBody address code argument)) ∧ b.getLsbD 0 = true := by
  rw [setWidth_eq_token_fields, setWidth_commandToken, ← commandBody_eq_iff, ← and_assoc]
  refine append_eq_append_iff.trans (and_congr append_eq_append_iff ?_)
  rw [eq_one_iff_getLsbD]
  simp

/-- The code of a line command (Section 12.5). -/
def LineCommand.code : LineCommand → BitVec 4
  | .reset => 1 | .unpark => 2 | .seek => 3 | .assign => 4 | .park => 5 | .ping => 6 | .read => 7 | .write => 8 | .status => 9

/-- What a command code names is the command of that code. -/
theorem lineCommandOf_eq_some_iff {code : BitVec 4} {c : LineCommand} : lineCommandOf code = some c ↔ code = c.code := by
  cases c <;> revert code <;> decide

/-- The addresses to which a line command applies (R34). -/
def LineCommand.Applies (c : LineCommand) (address : BitVec 6) : Prop :=
  match c with
  | .reset | .unpark | .seek => address = 0
  | .assign | .park => address = 63
  | .ping | .read | .write | .status => 1 ≤ address.toNat ∧ address.toNat ≤ 62

theorem LineCommand.appliesTo_iff {c : LineCommand} {address : BitVec 6} : c.appliesTo address = true ↔ c.Applies address := by
  cases c <;> simp [LineCommand.appliesTo, LineCommand.Applies, addrOfNat]

/-- A module accepts a token exactly by its end bit, check code, command code and address (R34). -/
theorem acceptToken_eq_some_iff {b : BitVec 38} {x : Heard} : acceptToken b = some x ↔
    lineCommandOf (tokenCode b) = some x.command ∧ x.command.appliesTo x.address = true ∧
    (tokenAddress b = x.address ∧ tokenArgument b = x.argument) ∧
    tokenCheck b = crc8 (bitsOf (commandBody (tokenAddress b) (tokenCode b) (tokenArgument b))) ∧ b.getLsbD 0 = true := by
  obtain ⟨c, address, argument⟩ := x
  unfold acceptToken
  cases hc : lineCommandOf (tokenCode b) with
  | none => simp
  | some c' =>
    simp only [Option.ite_none_right_eq_some, Bool.and_eq_true, beq_iff_eq, Option.some.injEq, Heard.mk.injEq]
    constructor
    · rintro ⟨⟨⟨he, hk⟩, ha⟩, rfl, rfl, rfl⟩
      exact ⟨rfl, ha, ⟨rfl, rfl⟩, hk, he⟩
    · rintro ⟨rfl, ha, ⟨rfl, rfl⟩, hk, he⟩
      exact ⟨⟨⟨he, hk⟩, ha⟩, rfl, rfl, rfl⟩

/-- The 34 bits of an answer after its start bit are its fields. -/
theorem eq_answer_fields (b : BitVec 34) :
    b = answerBody (answerEcho b) (answerStatus b) (answerValue b) ++ answerCheck b ++ b.extractLsb' 0 1 := by
  have join (start len len' : Nat) : b.extractLsb' (start + len) len' ++ b.extractLsb' start len = b.extractLsb' start (len' + len) :=
    BitVec.extractLsb'_append_extractLsb'_eq_extractLsb' rfl
  unfold answerBody answerEcho answerStatus answerValue answerCheck
  rw [join 25 3 6, join 9 16 9, join 1 8 25, join 0 1 33]
  exact BitVec.extractLsb'_eq_self.symm

theorem answerBody_eq_iff {echo echo' : BitVec 6} {status status' : BitVec 3} {value value' : BitVec 16} :
    answerBody echo status value = answerBody echo' status' value' ↔ echo = echo' ∧ status = status' ∧ value = value' := by
  unfold answerBody
  exact append_eq_append_iff.trans ((and_congr_left' append_eq_append_iff).trans and_assoc)

/-- The bits after the start bit are the encoding of an answer exactly when the fields, the check code and the end bit are. -/
theorem eq_answerBits_iff {b : BitVec 34} {echo : BitVec 6} {status : BitVec 3} {value : BitVec 16} :
    b = answerBits echo status value ↔
      (answerEcho b = echo ∧ answerStatus b = status ∧ answerValue b = value) ∧
      answerCheck b = crc8 (bitsOf (answerBody echo status value)) ∧ answerEnd b = true := by
  rw [← answerBody_eq_iff, ← and_assoc]
  conv_lhs => rw [eq_answer_fields b]
  refine append_eq_append_iff.trans (and_congr append_eq_append_iff ?_)
  rw [eq_one_iff_getLsbD, answerEnd]
  simp

/-- The 3-bit field of a status (R35). -/
def ModStatus.bits : ModStatus → BitVec 3
  | .ok => 0 | .pend => 1 | .reject => 2 | .fault => 3

theorem statusOfCode_eq_some_iff {x : BitVec 3} {st : ModStatus} : statusOfCode x = some st ↔ x = st.bits := by
  cases st <;> revert x <;> decide

/-- Bits are judged correct exactly when they encode the expected echo, a status and a value that passes the test (R36). -/
theorem judgeBits_eq_correct_iff {t : Txn} {valueOk : ModStatus → BitVec 16 → Bool} {b : BitVec 34} {st : ModStatus}
    {v : BitVec 16} : judgeBits t valueOk b = .correct st v ↔
      valueOk st v = true ∧
      b = answerBits (expectedEcho t) st.bits v := by
  rw [eq_answerBits_iff, ← statusOfCode_eq_some_iff]
  unfold judgeBits
  cases hs : statusOfCode (answerStatus b) with
  | none => simp
  | some st' =>
    simp only [Option.some.injEq]
    split
    · next h =>
      simp only [Bool.and_eq_true, beq_iff_eq] at h
      obtain ⟨⟨⟨he, hk⟩, ha⟩, hv⟩ := h
      rw [Judgement.correct.injEq]
      constructor
      · rintro ⟨rfl, rfl⟩
        exact ⟨hv, ⟨ha, rfl, rfl⟩, by rw [← ha, ← statusOfCode_eq_some_iff.1 hs]; exact hk, he⟩
      · rintro ⟨-, ⟨-, rfl, rfl⟩, -⟩
        exact ⟨rfl, rfl⟩
    · next h =>
      refine ⟨nofun, ?_⟩
      rintro ⟨hv, ⟨ha, rfl, rfl⟩, hk, he⟩
      rw [← ha, ← statusOfCode_eq_some_iff.1 hs] at hk
      simp [he, hk, ha, hv] at h

/-- Bits that were seen are never judged absent (R36). -/
theorem judgeBits_ne_absent (t : Txn) (valueOk : ModStatus → BitVec 16 → Bool) (b : BitVec 34) :
    judgeBits t valueOk b ≠ .absent := by
  unfold judgeBits
  split
  · nofun
  · split <;> nofun

theorem answerValueOk_iff {t : Txn} {st : ModStatus} {v : BitVec 16} : answerValueOk t st v = true ↔
    ((t.kind = .read ∨ t.kind = .write) → st = .ok → v.toNat = argLength t.argument) ∧
    (t.kind = .assign → st = .ok ∧ v.extractLsb' 0 8 = 0) ∧ (t.kind = .park → st = .ok ∧ v = 0) := by
  unfold answerValueOk
  cases t.kind <;> simp [imp_iff_not_or]

theorem receiptValueOk_iff {t : Txn} {st : ModStatus} {v : BitVec 16} :
    receiptValueOk t st v = true ↔ (st = .ok ∨ st = .pend → v.toNat = argLength t.argument) := by
  cases st <;> simp [receiptValueOk]

/-- A module accepts the encodings of the line commands, at the addresses to which they apply (R34). -/
theorem acceptToken_iff_encoded {b : BitVec 38} {c : LineCommand} {address : BitVec 6} {argument : BitVec 18} :
    acceptToken b = some ⟨c, address, argument⟩ ↔
      c.Applies address ∧ b.setWidth 37 = (commandToken address c.code argument).setWidth 37 := by
  rw [acceptToken_eq_some_iff, eq_commandToken_iff, lineCommandOf_eq_some_iff, LineCommand.appliesTo_iff]
  constructor
  · rintro ⟨hc, ha, ⟨rfl, rfl⟩, hk, he⟩
    exact ⟨ha, ⟨rfl, hc, rfl⟩, hc ▸ hk, he⟩
  · rintro ⟨ha, ⟨rfl, hc, rfl⟩, hk, he⟩
    exact ⟨hc, ha, ⟨rfl, rfl⟩, hc.symm ▸ hk, he⟩

/-- Settles O60: a token is its fields, so that the tests on the fields are the equality with the encoding. -/
theorem tokensDecodeAsEncoded : Obligations.TokensDecodeAsEncoded := by
  refine ⟨fun b c address argument => ?_, fun t b st v => ⟨?_, ?_, judgeBits_ne_absent t _ b, judgeBits_ne_absent t _ b⟩⟩
  · cases c <;> exact acceptToken_iff_encoded
  · rw [judgeAnswer, judgeBits_eq_correct_iff, answerValueOk_iff, and_assoc, and_assoc]
    cases st <;> rfl
  · rw [judgeReceipt, judgeBits_eq_correct_iff, receiptValueOk_iff]
    cases st <;> rfl

end Sys2Proof.Machine
end

section
/-! SUPPORT. The bytes of items (Sections 12.3 and 12.4) and the exchange FETCH (R158). -/

namespace Sys2Proof.Machine

set_option Elab.async false

open Sys2Proof

/-- A port that takes the exchange answers it (R152). -/
theorem exchange_of_taken {h : HostId} {s : State} (hr : s.inReset = false) (hh : (s.port h).held = false) (act : State) :
    exchange h s act = .next act := by
  rw [exchange, if_pos (State.takesExchanges_iff.2 ⟨hr, hh⟩)]

/-- What a port gives back, behind a change of the same port. -/
theorem State.setPort_giveBack (s : State) (h : HostId) (p : Port) (bytes : List Byte) :
    (s.setPort h p).giveBack h bytes = s.setPort h { p with hdo := bytes } := by
  rw [State.giveBack, State.port_setPort_same, State.setPort_setPort]

/-- Settles O8: each kind of item spelt out, and FETCH read off its definition. -/
theorem fetchRemovesTheOldestItem : Obligations.FetchRemovesTheOldestItem := by
  unfold Obligations.FetchRemovesTheOldestItem
  intro two six addr host count word flag cls status entryState outcome replyBody noticeBody
  refine ⟨fun r => ?_, fun n => ?_, fun h began s hr hh => ?_⟩
  · have houtcome : outcomeCode r.outcome = outcome r.outcome := by cases r.outcome <;> rfl
    have hbody : replyBodyBytes r.body = replyBody r.body := by
      cases r.body with
      | refused st v point => cases st <;> cases point <;> rfl
      | busy reason => cases reason <;> rfl
      | checkFailed point => cases point <;> rfl
      | uncertain j => cases j <;> rfl
      | deferredRefused st v polls => cases st <;> rfl
      | deferredAborted cause polls => cases cause <;> rfl
      | claim hd rest =>
        cases rest with
        | holder h => cases h <;> rfl
        | _ => rfl
      | records rs =>
        refine congrArg rs.flatMap (funext fun r => ?_)
        obtain ⟨a, g, st, c, u, m, b1, b2, b3⟩ := r
        cases c <;> cases st <;> rfl
      | lookup b =>
        cases b with
        | entry a g st c => cases c <;> cases st <;> rfl
        | _ => rfl
      | settings p manage halted => cases p with | mk rate => cases rate <;> rfl
      | _ => rfl
    have hjoin : itemBytes (.reply r) = [1, r.tag, r.kind, outcomeCode r.outcome, r.qualifier] ++ two r.serial ++
        count (replyBodyBytes r.body).length :: replyBodyBytes r.body := List.append_assoc _ _ _
    rw [hjoin, houtcome, hbody]
  · have hbody : (noticeCode n.body, noticeBodyBytes n.body) = noticeBody n.body := by
      cases n.body with
      | arrived a g u c returning => cases c <;> rfl
      | lineReset reason => cases reason <;> rfl
      | claimRevoked a g reason => cases reason <;> rfl
      | _ => rfl
    have hjoin : itemBytes (.notice n) = [2, noticeCode n.body] ++ two n.serial ++
        count (noticeBodyBytes n.body).length :: noticeBodyBytes n.body := List.append_assoc _ _ _
    rw [hjoin, ← hbody]
  · change execFetch h began s = _
    rw [execFetch, exchange_of_taken hr hh]
    refine congrArg Host.Outcome.next ?_
    dsimp only
    cases ho : (s.port h).outbound with
    | nil => simp only [State.giveBack, ho]; rfl
    | cons i rest =>
      cases began with
      | true => simp only [State.giveBack, ho]; rfl
      | false =>
        simp only [Bool.false_eq_true, if_false, State.setPort_giveBack, Port.fetched]
        split <;> rfl

end Sys2Proof.Machine
end

section
/-! SUPPORT. The takes (R154, R155, R174): the shape and the manage checks, the control requests and the directory requests that
change the directory. -/

namespace Sys2Proof.Machine

set_option Elab.async false

open Sys2Proof

section
variable {h : HostId} {r : Request} {rest : List Request} {s : State}

/-! ### The shape check (R154, R174) -/

theorem bodyFits_iff (code : Byte) (n : Nat) : bodyFits code n = true ↔
    (code.toNat ∈ [12, 14, 16] ∧ n = 0) ∨ (code.toNat ∈ [1, 3] ∧ n = 1) ∨ (code.toNat ∈ [7, 8, 11, 13] ∧ n = 2) ∨
    (code.toNat = 15 ∧ n = 3) ∨ (code.toNat = 6 ∧ n = 4) ∨ (code.toNat = 9 ∧ n = 5) ∨ (code.toNat ∈ [2, 4, 5] ∧ n = 6) ∨
    (code.toNat = 10 ∧ 4 ≤ n ∧ n ≤ 68) := by
  have hcode (x : Byte) : code = x ↔ code.toNat = x.toNat := BitVec.toNat_inj.symm
  unfold bodyFits
  simp only [hcode, codeList, codeRecalls, codeLookup, codeForget, codeClaim, codeRenew, codeRelease, codeRevoke, codePing,
    codeSubscribe, codeRead, codeWrite, codeConfigure, codeEnumerate, codeSettings, codeLineReset, List.mem_cons,
    List.not_mem_nil, or_false, BitVec.reduceToNat]
  split_ifs <;> grind [Config.maxBody]

/-- A body that does not fit is INVALID (R154). -/
theorem shaped_of_unfit {act : Request → State → State} (hf : bodyFits r.code r.body.length = false) (s : State) :
    shaped h act r s = s.answer h r .invalid .empty := by simp [shaped, hf]

theorem shapedClaim_of_unfit {act : Request → State → State} (hf : bodyFits r.code r.body.length = false) (s : State) :
    shapedClaim h act r s = s.answerClaim h r .invalid .nothing := by simp [shapedClaim, hf]

theorem shapedClaim_of_fits {act : Request → State → State} (hf : bodyFits r.code r.body.length = true) (s : State) :
    shapedClaim h act r s = act r s := if_pos hf

theorem managing_of_manage {act : Request → State → State} (hm : (s.port h).manage = true) : managing h act r s = act r s := if_pos hm

theorem managing_of_not_manage {act : Request → State → State} (hm : (s.port h).manage = false) :
    managing h act r s = s.answer h r .denied .empty := by simp [managing, hm]

/-- The take of a line request while the slot is empty (R154). -/
theorem takeLineRequest_of_slot_none (hs : (s.port h).slot = none) (k : LineKind) : takeLineRequest h k s =
    takeRequest h (fun r => r.code == lineKindCode k) (shaped h (lineRequestTaken h k)) s := if_neg (by simp [hs])

/-- A code whose number stands in a list is the byte of one of the numbers. -/
theorem byte_mem_of_toNat_mem {code : Byte} {l : List Nat} (hc : code.toNat ∈ l) : code ∈ l.map (BitVec.ofNat 8) :=
  List.mem_map.2 ⟨_, hc, by simp⟩

/-! ### What a take decides (R154, R155) -/

theorem configureOf_of_unknown {p : Byte} (hp : ¬ (1 ≤ p.toNat ∧ p.toNat ≤ 8)) :
    configureOf h p = .configureUnknownParameter h := by
  unfold configureOf
  split <;> simp_all

/-- The parameter codes (R167). -/
theorem parameter_cases (p : Byte) : p ∈ [1, 2, 3, 4, 5, 6, 7, 8] ∨ ¬ (1 ≤ p.toNat ∧ p.toNat ≤ 8) := by revert p; decide

/-- A CONFIGURE is checked for its shape, then for the manage flag, whatever parameter it names (R155, R167). -/
theorem exec_takeOf_configure {tag : Tag} {body : List Byte} (hq : s.AtHead h ⟨0x0F, tag, body⟩ rest) :
    ∃ act, exec (takeOf h ⟨0x0F, tag, body⟩) s = .next (shaped h (managing h act) ⟨0x0F, tag, body⟩ (s.taken h rest)) := by
  cases body with
  | nil => exact ⟨_, takeRequest_of_atHead hq rfl⟩
  | cons p tail =>
    rw [takeOf_configure h rfl rfl]
    rcases parameter_cases p with hp | hp
    · simp only [List.mem_cons, List.not_mem_nil, or_false] at hp
      rcases hp with rfl | rfl | rfl | rfl | rfl | rfl | rfl | rfl <;> exact ⟨_, takeRequest_of_atHead hq rfl⟩
    · rw [configureOf_of_unknown hp]
      exact ⟨_, takeRequest_of_atHead hq (by simp [configuresUnknown, codeConfigure]; omega)⟩

/-- A managing request is checked for its shape, then for the manage flag (R155). -/
theorem exec_takeOf_managing (hq : s.AtHead h r rest) (hc : r.code.toNat ∈ [4, 15, 16]) :
    ∃ act, exec (takeOf h r) s = .next (shaped h (managing h act) r (s.taken h rest)) := by
  obtain ⟨code, tag, body⟩ := r
  have hcode : code = 0x04 ∨ code = 0x0F ∨ code = 0x10 := by simpa using byte_mem_of_toNat_mem hc
  rcases hcode with rfl | rfl | rfl
  · exact ⟨_, takeRequest_of_atHead hq rfl⟩
  · exact exec_takeOf_configure hq
  · exact ⟨_, takeRequest_of_atHead hq rfl⟩

/-- A request of any code but the claim unit's is checked for its shape; a line request when the slot is empty (R154). -/
theorem exec_takeOf_shaped (hq : s.AtHead h r rest) (hc : 1 ≤ r.code.toNat ∧ r.code.toNat ≤ 16)
    (hn : r.code.toNat ∉ [5, 6, 7, 8]) (hs : r.code.toNat ∈ [9, 10, 11] → (s.port h).slot = none) :
    ∃ act, exec (takeOf h r) s = .next (shaped h act r (s.taken h rest)) := by
  by_cases hm : r.code.toNat ∈ [4, 15, 16]
  · exact (exec_takeOf_managing hq hm).imp' (managing h) fun _ => id
  obtain ⟨code, tag, body⟩ := r
  by_cases hl : code.toNat ∈ [9, 10, 11]
  · have hcode : code = 0x09 ∨ code = 0x0A ∨ code = 0x0B := by simpa using byte_mem_of_toNat_mem hl
    rcases hcode with rfl | rfl | rfl <;>
      exact ⟨_, (takeLineRequest_of_slot_none (hs hl) _).trans (takeRequest_of_atHead hq rfl)⟩
  · have hother : code.toNat ∈ [1, 2, 3, 12, 13, 14] := by
      simp only [List.mem_cons, List.not_mem_nil, or_false] at hc hn hm hl ⊢
      omega
    have hcode : code = 0x01 ∨ code = 0x02 ∨ code = 0x03 ∨ code = 0x0C ∨ code = 0x0D ∨ code = 0x0E := by
      simpa using byte_mem_of_toNat_mem hother
    rcases hcode with rfl | rfl | rfl | rfl | rfl | rfl <;> exact ⟨_, takeRequest_of_atHead hq rfl⟩

/-- A claim request is checked for its shape, REVOKE then for the manage flag (R121, R154, R155). -/
theorem exec_takeOf_shapedClaim (hq : s.AtHead h r rest) (hc : r.code.toNat ∈ [5, 6, 7, 8]) :
    ∃ act, exec (takeOf h r) s = .next (shapedClaim h act r (s.taken h rest)) := by
  obtain ⟨code, tag, body⟩ := r
  have hcode : code = 0x05 ∨ code = 0x06 ∨ code = 0x07 ∨ code = 0x08 := by
    simpa using byte_mem_of_toNat_mem hc
  rcases hcode with rfl | rfl | rfl | rfl <;> exact ⟨_, takeRequest_of_atHead hq rfl⟩

/-! ### What the replies at a take leave -/

/-- A reply of the claim unit at the take leaves the port with the reply, and the free values it has read. -/
theorem State.taken_answerClaim (s : State) (h : HostId) (rest : List Request) {r : Request} (hc : r.code ≠ codeRecalls)
    (o : ReplyOutcome) (b : ClaimBody) : (s.taken h rest).answerClaim h r o b = { s.replied h rest
      { tag := r.tag, kind := r.code, outcome := o, qualifier := 0, serial := s.dir.serial,
        body := .claim (carriedHandle s.freeIndex r.body) b } with freeIndex := (s.useFree r.body.length).freeIndex } := by
  have hfree : (s.taken h rest).useFree r.body.length =
      { s.taken h rest with freeIndex := (s.useFree r.body.length).freeIndex } := by
    unfold State.useFree
    split <;> rfl
  rw [State.answerClaim, hfree, ← s.takeQualifier_of_ne hc, ← State.taken_answer]
  rfl

theorem carriedHandle_of_two (n : Nat) (h2 : 2 ≤ r.body.length) : carriedHandle n r.body = bodyHandle r := by
  obtain ⟨code, tag, body⟩ := r
  match body, h2 with
  | _ :: _ :: _, _ => rfl

theorem State.useFree_of_two {n : Nat} (h2 : 2 ≤ n) (s : State) : s.useFree n = s := if_neg (by omega)

/-- The body of a claim request that fits carries the handle, so that the reply begins with it (R121). -/
theorem State.taken_answerClaim_of_two (s : State) (h : HostId) (rest : List Request) (hc : r.code ≠ codeRecalls)
    (h2 : 2 ≤ r.body.length) (o : ReplyOutcome) (b : ClaimBody) : (s.taken h rest).answerClaim h r o b = s.replied h rest
      { tag := r.tag, kind := r.code, outcome := o, qualifier := 0, serial := s.dir.serial,
        body := .claim (bodyHandle r) b } := by
  rw [s.taken_answerClaim h rest hc, carriedHandle_of_two _ h2, s.useFree_of_two h2]
  rfl

end

/-- Settles O13: a code that names no request is INVALID, and the shape check stands first in every other take. -/
theorem codeAndShapeAreCheckedAtTheTake : Obligations.CodeAndShapeAreCheckedAtTheTake := by
  refine ⟨bodyFits_iff, fun h r rest s hq => ⟨fun hc => ?_, fun hc hn hf hs => ?_, fun hc hf => ?_⟩⟩
  · have hcode : r.code ≠ codeRecalls := fun h => hc (by rw [h]; decide)
    change execInvalidRequestCode h s = _
    rw [execInvalidRequestCode, takeRequest_of_atHead hq (by simp only [codeNamesRequest, hc, decide_false, Bool.not_false]), State.taken_answer,
      State.takeQualifier_of_ne hcode]
  · obtain ⟨act, hx⟩ := exec_takeOf_shaped hq hc hn hs
    rw [hx, shaped_of_unfit (by rwa [← Bool.not_eq_true, bodyFits_iff]), State.taken_answer]
    rfl
  · obtain ⟨act, hx⟩ := exec_takeOf_shapedClaim hq hc
    have hcode : r.code ≠ codeRecalls := fun h => by rw [h] at hc; revert hc; decide
    rw [hx, shapedClaim_of_unfit (by rwa [← Bool.not_eq_true, bodyFits_iff]), State.taken_answerClaim _ _ _ hcode]
    refine ⟨_, _, rfl, fun a ha => ?_, fun a g tail hb => by rw [hb]; rfl⟩
    match hb : r.body, ha with
    | [_], rfl => rfl
    | _ :: _ :: _, rfl => rfl

/-- Settles O14: the manage check stands behind the shape check, before anything else. -/
theorem managingRequestsDeniedWithoutTheFlag : Obligations.ManagingRequestsDeniedWithoutTheFlag := by
  intro h r rest s hq hf hm
  have htaken : ((s.taken h rest).port h).manage = false := by rw [State.taken_port_manage, hm]
  refine ⟨fun hc => ?_, fun hc => ?_⟩
  · obtain ⟨act, hx⟩ := exec_takeOf_managing hq hc
    have hcode : r.code ≠ codeRecalls := fun h => by rw [h] at hc; revert hc; decide
    rw [hx, shaped_of_fits hf, managing_of_not_manage htaken, State.taken_answer, State.takeQualifier_of_ne hcode]
  · obtain ⟨code, tag, body⟩ := r
    obtain rfl : code = 0x08 := BitVec.eq_of_toNat_eq hc
    have hx : exec (takeOf h ⟨0x08, tag, body⟩) s = .next (shapedClaim h _ _ (s.taken h rest)) := takeRequest_of_atHead hq rfl
    have h2 : body.length = 2 := by simpa [bodyFits_iff] using hf
    rw [hx, shapedClaim_of_fits hf, managingClaim, htaken, if_neg Bool.false_ne_true,
      State.taken_answerClaim_of_two _ _ _ (show (0x08 : Byte) ≠ codeRecalls by decide) h2.ge]

end Sys2Proof.Machine
end

section
/-! SUPPORT. RECALLS and FORGET (R23, R24), ENUMERATE (R66) and CONFIGURE (R9, R138, R166, R167) at their takes. -/

namespace Sys2Proof.Machine

set_option Elab.async false

open Sys2Proof

/-! ### RECALLS and FORGET (R23, R24) -/

/-- Settles O17: the position decides between the two answers, and RECALLS alone has a qualifier. -/
theorem recallsReportsTheListFromAPosition : Obligations.RecallsReportsTheListFromAPosition := by
  intro h tag b rest s hq
  have hx : exec (.recalls h) s = .next (recallsRequest h ⟨0x03, tag, [b]⟩ (s.taken h rest)) :=
    (takeRequest_of_atHead hq rfl).trans (congrArg _ (shaped_of_fits rfl _))
  have hpos : (bodyByte ⟨0x03, tag, [b]⟩ 0).toNat < Config.recallCapacity ↔ b.toNat ≤ 23 := Nat.lt_succ_iff
  rw [hx, recallsRequest]
  simp only [hpos]
  split <;> rw [State.taken_answer] <;> rfl

section
variable {h : HostId} {tag : Byte} {u : Uid} {rest : List Request} {s : State}

/-- A FORGET with the manage flag is decided by the uid that its body spells, and a free line is granted (R24, R70). -/
theorem exec_forget (hq : s.AtHead h ⟨0x04, tag, bytes48 u⟩ rest) (hm : (s.port h).manage = true) :
    exec (.forget h) s = .next (forgetRequest h ⟨0x04, tag, bytes48 u⟩ (s.taken h rest)).grant := by
  change execForget h s = _
  rw [execForget, takeRequest_of_atHead hq rfl, shaped_of_fits rfl,
    managing_of_manage (by rw [State.taken_port_manage, hm])]

section
variable {r : Request} {a : Addr}

theorem forgetRequest_of_recall {x : Recall} (hr : s.recallOf (bodyUid r) = some x) : forgetRequest h r s =
    ((s.setRecalls (s.dir.recalls.filter fun x => x.uid ≠ bodyUid r)).bumpSerial).answer h r .done .empty := by
  simp only [forgetRequest, hr]

theorem forgetRequest_of_lost (hr : s.recallOf (bodyUid r) = none) (hh : s.holderOf (bodyUid r) = some a)
    (hl : (s.entry a).state = .lost) : forgetRequest h r s =
    (((s.setEntry a (s.entry a).freed).bumpSerial.wantIfParked).answer h r .done .empty).post (.notice (.freed a false)) := by
  simp only [forgetRequest, hr, hh, if_pos hl]

theorem forgetRequest_of_not_lost (hr : s.recallOf (bodyUid r) = none) (hh : s.holderOf (bodyUid r) = some a)
    (hl : (s.entry a).state ≠ .lost) : forgetRequest h r s = s.answer h r .invalid .empty := by
  simp only [forgetRequest, hr, hh, if_neg hl]

theorem forgetRequest_of_unknown (hr : s.recallOf (bodyUid r) = none) (hh : s.holderOf (bodyUid r) = none) :
    forgetRequest h r s = s.answer h r .notFound .empty := by
  simp only [forgetRequest, hr, hh]

end

theorem State.taken_wantIfParked (s : State) (h : HostId) (rest : List Request) :
    (s.taken h rest).wantIfParked = s.wantIfParked.taken h rest := by
  unfold State.wantIfParked
  rw [State.taken_dir]
  split <;> rfl

end

/-- Settles O18: the recall list is searched before the entries, and the change stands before the reply. -/
theorem forgetRemovesARecordOrFreesALostEntry : Obligations.ForgetRemovesARecordOrFreesALostEntry := by
  intro h tag u rest s hq hm holds reply
  have hu : bodyUid ⟨0x04, tag, bytes48 u⟩ = u := bodyUid_bytes48 ..
  rw [exec_forget hq hm]
  refine ⟨fun hx => ?_, fun hx a ha hlow => ?_, fun hx ha => ?_⟩
  · obtain ⟨x, hfound⟩ : ∃ x, s.recallOf u = some x := by
      obtain ⟨x, hmem, hu⟩ := hx
      rw [← Option.ne_none_iff_exists', ne_eq, State.recallOf_eq_none_iff]
      exact fun hnone => hnone x hmem hu
    rw [forgetRequest_of_recall (s := s.taken h rest) (hu.symm ▸ hfound), hu]
    exact congrArg (fun t => Host.Outcome.next (State.grant t)) (State.taken_answer
      { s with dir := { s.dir with recalls := s.dir.recalls.filter (fun x => x.uid ≠ u), serial := s.dir.serial + 1 } } ..)
  · have hnone : s.recallOf u = none := State.recallOf_eq_none_iff.2 hx
    have hsome : s.holderOf u = some a := State.holderOf_eq_some_iff.2 ⟨ha, hlow⟩
    refine ⟨fun hl => ?_, fun hl => ?_⟩
    · have hserial : (s.setEntry a { gen := (s.entry a).gen }).bumpSerial.wantIfParked.dir.serial = s.dir.serial + 1 := by
        rw [State.wantIfParked_dir]; rfl
      have hwant : ((s.taken h rest).setEntry a ((s.taken h rest).entry a).freed).bumpSerial.wantIfParked =
          (s.setEntry a { gen := (s.entry a).gen }).bumpSerial.wantIfParked.taken h rest :=
        (s.setEntry a (s.entry a).freed).bumpSerial.taken_wantIfParked h rest
      rw [forgetRequest_of_lost (s := s.taken h rest) (hu.symm ▸ hnone) (hu.symm ▸ hsome) hl, hwant, State.taken_answer, hserial]
      rfl
    · rw [forgetRequest_of_not_lost (s := s.taken h rest) (hu.symm ▸ hnone) (hu.symm ▸ hsome) hl, State.taken_answer]
      rfl
  · rw [forgetRequest_of_unknown (s := s.taken h rest) (hu.symm ▸ State.recallOf_eq_none_iff.2 hx) (hu.symm ▸ State.holderOf_eq_none_iff.2 ha),
      State.taken_answer]
    rfl

/-! ### ENUMERATE (R66) -/

theorem State.enumerated_eq (s : State) : s.enumerated = { s with engine := { s.engine with
    lastFailed := none, failures := 0, wanted := true
    state := if s.engine.state = .idle ∨ s.engine.state = .halted then .waiting else s.engine.state
    ending := if s.engine.ending = none then none else some .plain } } := by
  have hending : s.engine.ending.map (fun _ => RoundEnd.plain) = if s.engine.ending = none then none else some .plain := by
    cases s.engine.ending <;> simp
  rw [← hending]
  rfl

/-- Settles O45: the engine's part stands before the reply, and a free line is granted behind it. -/
theorem enumerateRequestsARound : Obligations.EnumerateRequestsARound := by
  intro h tag rest s hq
  have hx : exec (.enumerate h) s = .next (((s.taken h rest).enumerated.answer h ⟨0x0C, tag, []⟩ .done .empty).grant) :=
    (takeRequest_of_atHead hq rfl).trans (congrArg _ (shaped_of_fits rfl _))
  have htaken : (s.taken h rest).enumerated = s.enumerated.taken h rest := rfl
  rw [hx, htaken, State.taken_answer, State.enumerated_eq]
  rfl

/-! ### CONFIGURE (R166, R167) -/

section
variable {h : HostId} {tag p v1 v0 : Byte} {rest : List Request} {s : State}

/-- A CONFIGURE of one parameter with the manage flag: in its range the value is stored before the reply, out of it INVALID. -/
theorem takeConfigure_sets {inRange : Nat → Bool} {before : Params → Nat} {set : Nat → State → State}
    (hq : s.AtHead h ⟨0x0F, tag, [p, v1, v0]⟩ rest) (hm : (s.port h).manage = true) {R : Prop}
    (hR : inRange (v1 ++ v0).toNat = true ↔ R) {s1 : State} {n : BitVec 16}
    (hs : R → set (v1 ++ v0).toNat (s.taken h rest) = s1.taken h rest) (hn : s1.dir.serial = n) :
    (R → takeConfigure h p inRange before set s = .next (s1.replied h rest
      { tag := tag, kind := 0x0F, outcome := .done, qualifier := 0, serial := n,
        body := .configured p (BitVec.ofNat 16 (before s.config)) (v1 ++ v0) })) ∧
    (¬ R → takeConfigure h p inRange before set s = .next (s.replied h rest
      { tag := tag, kind := 0x0F, outcome := .invalid, qualifier := 0, serial := s.dir.serial, body := .empty })) := by
  have hx : takeConfigure h p inRange before set s =
      .next (configure h inRange before set ⟨0x0F, tag, [p, v1, v0]⟩ (s.taken h rest)) := by
    rw [takeConfigure, takeRequest_of_atHead hq (by simp [configures, codeConfigure]), shaped_of_fits rfl,
      managing_of_manage (by rw [State.taken_port_manage, hm])]
  have hv : configValue ⟨0x0F, tag, [p, v1, v0]⟩ = (v1 ++ v0).toNat := rfl
  rw [hx, configure, hv]
  refine ⟨fun hr => ?_, fun hr => ?_⟩
  · rw [if_pos (hR.2 hr), hs hr, State.taken_answer, hn]
    have hword : wordOf (v1 ++ v0).toNat = v1 ++ v0 := by rw [wordOf, BitVec.ofNat_toNat, BitVec.setWidth_eq]
    rw [hword]
    rfl
  · rw [if_neg (hR.not.2 hr), State.taken_answer]
    rfl

/-- A CONFIGURE that names no parameter is INVALID (R167). -/
theorem exec_configureUnknownParameter (hq : s.AtHead h ⟨0x0F, tag, [p, v1, v0]⟩ rest) (hm : (s.port h).manage = true)
    (hp : ¬ (1 ≤ p.toNat ∧ p.toNat ≤ 8)) : exec (.configureUnknownParameter h) s = .next (s.replied h rest
      { tag := tag, kind := 0x0F, outcome := .invalid, qualifier := 0, serial := s.dir.serial, body := .empty }) := by
  change execConfigureUnknownParameter h s = _
  rw [execConfigureUnknownParameter, takeRequest_of_atHead hq (by simp [configuresUnknown, codeConfigure]; omega),
    shaped_of_fits rfl, managing_of_manage (by rw [State.taken_port_manage, hm]), State.taken_answer]
  rfl

end

theorem State.retimeSweep_eq (s : State) (v : Nat) : s.retimeSweep v = { s with sweep := { s.sweep with
    timer := if v = 0 then none else if s.sweep.timer = none then some (s.time + v) else s.sweep.timer } } := by
  have htimer : (if s.sweep.timer.isNone then some (s.time + v) else s.sweep.timer) =
      if s.sweep.timer = none then some (s.time + v) else s.sweep.timer := by cases s.sweep.timer <;> simp
  rw [← htimer]
  rfl

/-- Settles O48: one parameter after the other, each by its range and the change it makes. -/
theorem configureReplacesOneParameter : Obligations.ConfigureReplacesOneParameter := by
  intro h tag p v1 v0 rest s hq hm v take invalid sets
  have htake : take = configureOf h p := takeOf_configure h rfl rfl
  refine ⟨?_, ?_, ?_, ?_, ?_, ?_, ?_, fun hp => ?_⟩
  · rintro rfl
    have hrate (s1 : State) (hr : rateOfCode v ≠ none) (hs : { s with config := { s.config with rate := (rateOfCode v).getD s.config.rate } } = s1) :
        sets True (rateCode s.config.rate) s1 :=
      takeConfigure_sets hq hm (by simpa [Option.isSome_iff_ne_none] using hr) (fun _ => by rw [← hs]; rfl) (by rw [← hs])
    refine ⟨fun hv => ?_, fun hv => ?_, fun hv => ?_, fun hv => ?_, fun hv => ?_⟩
    · exact hrate _ (by simp [hv, rateOfCode]) (by rw [hv]; rfl)
    · exact hrate _ (by simp [hv, rateOfCode]) (by rw [hv]; rfl)
    · exact hrate _ (by simp [hv, rateOfCode]) (by rw [hv]; rfl)
    · exact hrate _ (by simp [hv, rateOfCode]) (by rw [hv]; rfl)
    · have hnone : rateOfCode v = none := by
        rw [rateOfCode, if_neg (by omega), if_neg (by omega), if_neg (by omega), if_neg (by omega)]
      exact (takeConfigure_sets (R := False) (s1 := s) hq hm (by simp [v, hnone]) False.elim rfl).2 not_false
  · rintro rfl
    exact takeConfigure_sets hq hm decide_eq_true_iff (fun _ => rfl) rfl
  · rintro rfl
    exact takeConfigure_sets hq hm decide_eq_true_iff (fun _ => rfl) rfl
  · rintro rfl
    exact takeConfigure_sets hq hm decide_eq_true_iff (fun _ => by rw [State.retimeSweep_eq]; rfl) rfl
  · rintro rfl
    exact takeConfigure_sets hq hm decide_eq_true_iff (fun _ => rfl) rfl
  · rintro rfl
    exact takeConfigure_sets hq hm decide_eq_true_iff (fun _ => rfl) rfl
  · rintro rfl
    exact takeConfigure_sets hq hm decide_eq_true_iff (fun _ => rfl) rfl
  · change exec take s = _
    have hunknown : ¬ (1 ≤ p.toNat ∧ p.toNat ≤ 8) := by
      simp only [List.mem_cons, List.not_mem_nil, or_false] at hp
      omega
    rw [htake, configureOf_of_unknown hunknown]
    exact exec_configureUnknownParameter hq hm hunknown

/-! ### The miss limit (R9) -/

/-- A lowered miss limit changes an entry's state just where an entry is reached by a limit of 1 (R9). -/
theorem State.applyMissLimit_eq (s : State) (v : Nat) : s.applyMissLimit v = { s with dir := { s.dir with
    entries := s.dir.entries.map fun e => e.lowerMiss v
    serial := if v = 1 ∧ ∃ a, (s.entry a).state = .suspect ∧ v ≤ (s.entry a).miss then s.dir.serial + 1 else s.dir.serial } } := by
  have hany : allAddrs.any (fun a => (s.entry a).overLimit v) = true ↔
      ∃ a, (s.entry a).state = .suspect ∧ v ≤ (s.entry a).miss := by
    simp [Entry.overLimit]
  unfold State.applyMissLimit
  simp only [hany]
  split_ifs <;> rfl

theorem Entry.lowerMiss_eq (e : Entry) {v : Nat} (hv : 1 ≤ v) : e.lowerMiss v = if e.state = .suspect ∧ v ≤ e.miss then
    { e with miss := v - 1, state := if v = 1 then .present else .suspect } else e := by
  have hreached : e.overLimit v = true ↔ e.state = .suspect ∧ v ≤ e.miss := by simp [Entry.overLimit]
  by_cases hr : e.overLimit v = true
  · rw [Entry.lowerMiss, if_pos hr, if_pos (hreached.1 hr)]
    simp [show v - 1 = 0 ↔ v = 1 by omega]
  · rw [Entry.lowerMiss, if_neg hr, if_neg (hreached.not.1 hr)]

/-- Settles O49: the change of the directory stands before the reply, which carries the serial it leaves. -/
theorem configureMissLimitReachesSuspectEntries : Obligations.ConfigureMissLimitReachesSuspectEntries := by
  intro h tag v1 v0 rest s hq hm v reached
  have hsets (n : BitVec 16) (hn : (((s.modConfig fun p => { p with missLimit := v }).applyMissLimit v)).dir.serial = n) :=
    takeConfigure_sets (inRange := fun v => decide (1 ≤ v ∧ v ≤ 7)) (before := fun p => p.missLimit)
      (set := fun v s => (s.modConfig fun p => { p with missLimit := v }).applyMissLimit v) hq hm decide_eq_true_iff
      (s1 := (s.modConfig fun p => { p with missLimit := v }).applyMissLimit v)
      (fun _ => by rw [State.applyMissLimit_eq, State.applyMissLimit_eq]; rfl) hn
  refine ⟨(hsets _ rfl).2, fun hv n hbump hkeep => ?_⟩
  have hn : ((s.modConfig fun p => { p with missLimit := v }).applyMissLimit v).dir.serial = n := by
    rw [State.applyMissLimit_eq]
    by_cases hr : v = 1 ∧ ∃ a, reached (s.entry a)
    · exact (if_pos hr).trans (hbump hr.1 hr.2).symm
    · refine (if_neg hr).trans (hkeep ?_).symm
      simpa [not_and_or, -not_and] using hr
  refine ⟨_, (hsets n hn).1 hv, fun a => ?_, ?_⟩
  · exact (State.applyMissLimit_entry (s.modConfig fun p => { p with missLimit := v }) v a).trans (Entry.lowerMiss_eq _ hv.1)
  · rw [← hn, State.applyMissLimit_eq]
    rfl

end Sys2Proof.Machine
end

section
/-! SUPPORT. The claim requests at their takes (R121 to R127), the handover (R124), and the takes of READ, WRITE and PING (R94 to
R98, R156). -/

namespace Sys2Proof.Machine

set_option Elab.async false

open Sys2Proof

section
variable {h : HostId} {r : Request} {rest : List Request} {s : State} {a : Addr}

/-! ### Handles (R5) -/

/-- A handle that names an address is current when the entry there is bound at the handle's generation. -/
theorem State.checkHandle_eq {hd : Handle} (ha : addrNum a = hd.addr.toNat) :
    s.checkHandle hd = if (s.entry a).bound = true ∧ (s.entry a).gen = hd.gen then .current a else .stale := by
  rw [State.checkHandle, ← ha, addrOfNat_addrNum]
  simp

theorem State.checkHandle_malformed {hd : Handle} (ha : ¬ (1 ≤ hd.addr.toNat ∧ hd.addr.toNat ≤ 62)) :
    s.checkHandle hd = .malformed := by
  rw [State.checkHandle, addrOfNat_eq_none ha]

theorem addrNum_addr8 (a : Addr) : (addr8 a).toNat = addrNum a := by
  have := a.isLt
  simp only [addr8, addrNum, BitVec.toNat_ofNat]
  omega

/-! ### The checks of the claim requests (R121) -/

/-- The lease of a CLAIM or RENEW must be 1 or more; RELEASE and REVOKE have none (R121 check 3). -/
theorem leaseOk_iff : leaseOk r = true ↔ bodyWord r 2 ≠ 0 := by
  rw [leaseOk, decide_eq_true_iff, leaseField, Nat.one_le_iff_ne_zero]
  exact (BitVec.toNat_ne (y := 0)).symm

/-- A claim request that has passed check 1 goes on to the handle's address, the arguments and the handle (R121). -/
theorem exec_takeOf_claimChecked (hq : s.AtHead h r rest) (hc : r.code.toNat ∈ [5, 6, 7, 8])
    (hf : bodyFits r.code r.body.length = true) (hm : r.code.toNat = 8 → (s.port h).manage = true) :
    ∃ argsOk act, exec (takeOf h r) s = .next (claimChecked h argsOk act r (s.taken h rest)) ∧
      (argsOk r = true ↔ ¬ (r.code.toNat ∈ [5, 6] ∧ bodyWord r 2 = 0)) := by
  obtain ⟨code, tag, body⟩ := r
  have hcode : code = 0x05 ∨ code = 0x06 ∨ code = 0x07 ∨ code = 0x08 := by simpa using byte_mem_of_toNat_mem hc
  rcases hcode with rfl | rfl | rfl | rfl
  · exact ⟨leaseOk, _, (takeRequest_of_atHead hq rfl).trans (congrArg _ (shapedClaim_of_fits hf _)), by simp [leaseOk_iff]⟩
  · exact ⟨leaseOk, _, (takeRequest_of_atHead hq rfl).trans (congrArg _ (shapedClaim_of_fits hf _)), by simp [leaseOk_iff]⟩
  · exact ⟨fun _ => true, _, (takeRequest_of_atHead hq rfl).trans (congrArg _ (shapedClaim_of_fits hf _)), by simp⟩
  · refine ⟨fun _ => true, _, (takeRequest_of_atHead hq rfl).trans (congrArg _ ((shapedClaim_of_fits hf _).trans (if_pos ?_))),
      by simp⟩
    rw [State.taken_port_manage, hm rfl]

/-- A body of a claim request that fits begins with the handle. -/
theorem two_le_length_of_fits (hc : r.code.toNat ∈ [5, 6, 7, 8]) (hf : bodyFits r.code r.body.length = true) :
    2 ≤ r.body.length := by
  simp only [bodyFits_iff, List.mem_cons, List.not_mem_nil, or_false] at hc hf
  omega

theorem code_ne_recalls (hc : r.code.toNat ≠ 3) : r.code ≠ codeRecalls := fun h => hc (by rw [h]; rfl)

end

/-- Settles O19: the checks stand in `claimChecked` in their order. -/
theorem claimRequestsAreCheckedInOrder : Obligations.ClaimRequestsAreCheckedInOrder := by
  intro h r rest s hq hc hf hm hd leaseBad reply
  obtain ⟨argsOk, act, hx, hargs⟩ := exec_takeOf_claimChecked hq hc hf hm
  have hcode : r.code ≠ codeRecalls := code_ne_recalls fun h => by simp [h] at hc
  have hreply (o : ReplyOutcome) : (s.taken h rest).answerClaim h r o .nothing = s.replied h rest (reply o) :=
    State.taken_answerClaim_of_two s h rest hcode (two_le_length_of_fits hc hf) o .nothing
  rw [hx, claimChecked]
  refine ⟨fun ha => ?_, fun a ha => ⟨fun hbad => ?_, fun hbad hstale => ?_⟩⟩
  · rw [State.checkHandle_malformed ha, ← hreply]
  · have hno : ¬ argsOk r = true := hargs.not.2 (not_not.2 hbad)
    rw [State.checkHandle_eq ha, ← hreply]
    split_ifs <;> rfl
  · have hcheck : (s.taken h rest).checkHandle hd = .stale := (State.checkHandle_eq ha).trans (if_neg hstale)
    rw [hcheck, ← hreply]
    simp only [if_pos (hargs.2 hbad)]

/-! ### The handover (R124) -/

/-- Settles O23: a handover goes through the wait list from its oldest item. -/
theorem handoverGrantsTheFirstCurrentWaiter : Obligations.HandoverGrantsTheFirstCurrentWaiter := by
  refine fun s a => ⟨rfl, fun w ws b hb => ?_, fun w ws t ps flag hstale hrest => ?_⟩
  · rw [State.handOver, State.nextHolder, hb]
    rfl
  · have hnext : s.nextHolder (w :: ws) = ((s.nextHolder ws).1, w.reply .stale .nothing :: (s.nextHolder ws).2) := by
      rw [State.nextHolder]
      split
      · next b hb => exact absurd hb (hstale b)
      · rfl
    rw [State.handOver, hnext]
    rw [State.handOver] at hrest
    simp only [Prod.mk.injEq] at hrest ⊢
    obtain ⟨rfl, rfl, rfl⟩ := hrest
    exact ⟨rfl, rfl, rfl⟩

section
variable {h : HostId} {r : Request} {rest : List Request} {s : State} {a : Addr} {c : Claim}

/-- A reply of the claim unit to a body that carries a handle is the posting of that reply. -/
theorem State.answerClaim_of_two (s : State) (h : HostId) (hc : r.code ≠ codeRecalls) (h2 : 2 ≤ r.body.length) (o : ReplyOutcome)
    (b : ClaimBody) : s.answerClaim h r o b = s.post (.reply h r.tag r.code o 0 (.claim (bodyHandle r) b)) := by
  rw [State.answerClaim, s.useFree_of_two h2, carriedHandle_of_two _ h2, State.answer, s.takeQualifier_of_ne hc]

theorem releaseRequest_of_holder {t : State} {ps : List Post} {flag : Bool} (hcl : (s.entry a).claim = some c) (hh : c.holder = h)
    (ht : s.handOver a c.waits = (t, ps, flag)) :
    releaseRequest h a r s = (t.answerClaim h r .done (.released flag)).postAll ps := by
  simp only [releaseRequest, hcl, if_pos hh, ht]

theorem releaseRequest_of_other (hcl : (s.entry a).claim = some c) (hh : c.holder ≠ h) :
    releaseRequest h a r s = s.answerClaim h r .notHolder (.holder (some c.holder)) := by
  simp only [releaseRequest, hcl, if_neg hh]

theorem releaseRequest_of_unclaimed (hcl : (s.entry a).claim = none) :
    releaseRequest h a r s = s.answerClaim h r .notHolder (.holder none) := by
  simp only [releaseRequest, hcl]

theorem revokeRequest_of_claimed {t : State} {ps : List Post} {flag : Bool} (hcl : (s.entry a).claim = some c)
    (ht : s.handOver a c.waits = (t, ps, flag)) : revokeRequest h a r s =
      (t.answerClaim h r .done (.revoked c.holder flag)).postAll (.noticeTo c.holder (.claimRevoked a (s.entry a).gen .revoked) :: ps) := by
  simp only [revokeRequest, hcl, ht, Entry.holderRevoked]
  rfl

theorem revokeRequest_of_unclaimed (hcl : (s.entry a).claim = none) :
    revokeRequest h a r s = s.answerClaim h r .notHolder (.holder none) := by
  simp only [revokeRequest, hcl]

/-- With a current handle and arguments in range the checks let the request through (R121). -/
theorem claimChecked_of_current {argsOk : Request → Bool} {act : Addr → Request → State → State} {a : Addr}
    (ha : addrNum a = (bodyHandle r).addr.toNat) (hb : (s.entry a).bound = true) (hg : (s.entry a).gen = (bodyHandle r).gen)
    (hargs : argsOk r = true) : claimChecked h argsOk act r s = act a r s := by
  simp only [claimChecked, State.checkHandle_eq ha, if_pos (And.intro hb hg), if_pos hargs]

end

/-- Settles O22: the claim is handed over first; its items follow the DONE. -/
theorem releaseAndRevokeHandTheClaimOver : Obligations.ReleaseAndRevokeHandTheClaimOver := by
  intro h tag ha hg rest s a haddr hb hgen notHolder done
  have hnum (code : Byte) : addrNum a = (bodyHandle ⟨code, tag, [ha, hg]⟩).addr.toNat := by
    rw [← addrNum_addr8, ← haddr]; rfl
  refine ⟨fun hq => ?_, fun hq hm => ?_⟩
  · have hx : exec (.release h) s = .next (releaseRequest h a ⟨0x07, tag, [ha, hg]⟩ (s.taken h rest)) :=
      (takeRequest_of_atHead hq rfl).trans (congrArg _ ((shapedClaim_of_fits rfl _).trans
        (claimChecked_of_current (hnum _) hb hgen.symm rfl)))
    rw [hx]
    refine ⟨fun c hcl hh t ps flag ht => ?_, fun c hcl hh => ?_, fun hcl => ?_⟩
    · rw [releaseRequest_of_holder (s := s.taken h rest) hcl hh ht, State.answerClaim_of_two (r := ⟨0x07, tag, [ha, hg]⟩) t h (show (0x07 : Byte) ≠ codeRecalls by decide) (Nat.le_refl 2)]
      rfl
    · rw [releaseRequest_of_other (s := s.taken h rest) hcl hh, State.taken_answerClaim_of_two (r := ⟨0x07, tag, [ha, hg]⟩) s h rest (show (0x07 : Byte) ≠ codeRecalls by decide) (Nat.le_refl 2)]
      rfl
    · rw [releaseRequest_of_unclaimed (s := s.taken h rest) hcl, State.taken_answerClaim_of_two (r := ⟨0x07, tag, [ha, hg]⟩) s h rest (show (0x07 : Byte) ≠ codeRecalls by decide) (Nat.le_refl 2)]
      rfl
  · have hx : exec (.revoke h) s = .next (revokeRequest h a ⟨0x08, tag, [ha, hg]⟩ (s.taken h rest)) :=
      (takeRequest_of_atHead hq rfl).trans (congrArg _ ((shapedClaim_of_fits rfl _).trans
        ((if_pos (by rw [State.taken_port_manage, hm])).trans (claimChecked_of_current (hnum _) hb hgen.symm rfl))))
    rw [hx]
    refine ⟨fun c hcl t ps flag ht => ?_, fun hcl => ?_⟩
    · rw [revokeRequest_of_claimed (s := s.taken h rest) hcl ht, State.answerClaim_of_two (r := ⟨0x08, tag, [ha, hg]⟩) t h (show (0x08 : Byte) ≠ codeRecalls by decide) (Nat.le_refl 2)]
      rfl
    · rw [revokeRequest_of_unclaimed (s := s.taken h rest) hcl, State.taken_answerClaim_of_two (r := ⟨0x08, tag, [ha, hg]⟩) s h rest (show (0x08 : Byte) ≠ codeRecalls by decide) (Nat.le_refl 2)]
      rfl

end Sys2Proof.Machine
end

section
/-! SUPPORT. The takes of READ, WRITE and PING (R94 to R98, R154, R156). -/

namespace Sys2Proof.Machine

set_option Elab.async false

open Sys2Proof

section
variable {h : HostId} {r : Request} {rest : List Request} {s : State} {a : Addr} {k : LineKind}

/-- A line request whose body fits is decided by R94 when the slot is empty. -/
theorem exec_takeOf_line (hq : s.AtHead h r rest) (hs : (s.port h).slot = none) (hc : r.code.toNat ∈ [9, 10, 11])
    (hf : bodyFits r.code r.body.length = true) :
    ∃ k, lineKindCode k = r.code ∧ exec (takeOf h r) s = .next (lineRequestTaken h k r (s.taken h rest)) := by
  obtain ⟨code, tag, body⟩ := r
  have hcode : code = 0x09 ∨ code = 0x0A ∨ code = 0x0B := by simpa using byte_mem_of_toNat_mem hc
  have htake {k : LineKind} (hk : code = lineKindCode k) :
      takeLineRequest h k s = .next (lineRequestTaken h k ⟨code, tag, body⟩ (s.taken h rest)) := by
    rw [takeLineRequest_of_slot_none hs, takeRequest_of_atHead hq (by simp [hk]), shaped_of_fits hf]
  rcases hcode with rfl | rfl | rfl
  · exact ⟨.read, rfl, htake rfl⟩
  · exact ⟨.write, rfl, htake rfl⟩
  · exact ⟨.ping, rfl, htake rfl⟩

/-- The argument checks fail for an index beyond the register space or a length outside 1 to 64 (R95). -/
theorem accessArgsOk_iff (hk : lineKindCode k = r.code) (hf : bodyFits r.code r.body.length = true) : accessArgsOk k r = true ↔
    ¬ ((r.code.toNat ∈ [9, 10] ∧ 4095 < (bodyWord r 2).toNat) ∨
      (r.code.toNat = 9 ∧ ¬ (1 ≤ (bodyByte r 4).toNat ∧ (bodyByte r 4).toNat ≤ 64)) ∨
      (r.code.toNat = 10 ∧ r.body.length = 4)) := by
  rw [bodyFits_iff] at hf
  cases k with
  | read =>
    have hcode : r.code.toNat = 9 := congrArg BitVec.toNat hk.symm
    simp only [accessArgsOk, Bool.and_eq_true, decide_eq_true_eq]
    simp [accessIndex, accessLength, hcode]
  | write =>
    have hcode : r.code.toNat = 10 := congrArg BitVec.toNat hk.symm
    simp only [accessArgsOk, Bool.and_eq_true, decide_eq_true_eq]
    simp [accessIndex, accessLength, hcode] at hf ⊢
    omega
  | ping =>
    have hcode : r.code.toNat = 11 := congrArg BitVec.toNat hk.symm
    simp [accessArgsOk, hcode]

/-- The checks of the handle, the claim and the deferred record in their order, for a handle that names an address (R94). -/
theorem State.checkAccess_stale {hd : Handle} (ha : addrNum a = hd.addr.toNat)
    (hc : ¬ ((s.entry a).bound = true ∧ (s.entry a).gen = hd.gen)) : s.checkAccess h hd = .stale := by
  rw [State.checkAccess, State.checkHandle_eq ha, if_neg hc]

theorem State.checkAccess_current {hd : Handle} (ha : addrNum a = hd.addr.toNat)
    (hc : (s.entry a).bound = true ∧ (s.entry a).gen = hd.gen) : s.checkAccess h hd =
      match (s.entry a).claim with
      | some c => if c.holder ≠ h then .held c.holder else if (s.entry a).deferred.isSome then .deferred else .pass a
      | none => if (s.entry a).deferred.isSome then .deferred else .pass a := by
  rw [State.checkAccess, State.checkHandle_eq ha, if_pos hc] <;> rfl

theorem State.checkAccess_held {hd : Handle} (ha : addrNum a = hd.addr.toNat)
    (hc : (s.entry a).bound = true ∧ (s.entry a).gen = hd.gen) {c : Claim} (hcl : (s.entry a).claim = some c)
    (hh : c.holder ≠ h) : s.checkAccess h hd = .held c.holder := by
  rw [State.checkAccess_current ha hc, hcl]
  exact if_pos hh

/-- Behind the claim check only the deferred record is left (R94). -/
theorem State.checkAccess_unheld {hd : Handle} (ha : addrNum a = hd.addr.toNat)
    (hc : (s.entry a).bound = true ∧ (s.entry a).gen = hd.gen) (hh : ∀ c, (s.entry a).claim = some c → c.holder = h) :
    s.checkAccess h hd = if (s.entry a).deferred.isSome then .deferred else .pass a := by
  rw [State.checkAccess_current ha hc]
  cases hcl : (s.entry a).claim with
  | none => rfl
  | some c => exact if_neg (not_not.2 (hh c hcl))

theorem State.checkAccess_deferred {hd : Handle} (ha : addrNum a = hd.addr.toNat)
    (hc : (s.entry a).bound = true ∧ (s.entry a).gen = hd.gen) (hh : ∀ c, (s.entry a).claim = some c → c.holder = h)
    (hd' : (s.entry a).deferred ≠ none) : s.checkAccess h hd = .deferred := by
  rw [State.checkAccess_unheld ha hc hh, if_pos (Option.isSome_iff_ne_none.2 hd')]

theorem State.checkAccess_pass {hd : Handle} (ha : addrNum a = hd.addr.toNat)
    (hc : (s.entry a).bound = true ∧ (s.entry a).gen = hd.gen) (hh : ∀ c, (s.entry a).claim = some c → c.holder = h)
    (hd' : (s.entry a).deferred = none) : s.checkAccess h hd = .pass a := by
  rw [State.checkAccess_unheld ha hc hh, if_neg (by simp [hd'])]

/-- A line request with a well-formed handle and arguments in range that fails a later check is answered (R94). -/
theorem lineRequestTaken_of_refused (ha : addrNum a = (bodyHandle r).addr.toNat) (hargs : accessArgsOk k r = true)
    {c : AccessCheck} (hc : s.checkAccess h (bodyHandle r) = c) (hp : ∀ b, c ≠ .pass b) :
    lineRequestTaken h k r s = s.postAll (refusedAccess h r.tag k c) := by
  have hwell : ¬ (s.checkHandle (bodyHandle r) = .malformed ∨ ¬ accessArgsOk k r) := by
    rw [State.checkHandle_eq ha, hargs]
    split_ifs <;> simp
  rw [lineRequestTaken, if_neg hwell, hc]
  cases c with
  | pass b => exact absurd rfl (hp b)
  | stale => rfl
  | held holder => rfl
  | deferred => rfl

/-- A line request that passes every check moves to the slot (R96). -/
theorem lineRequestTaken_of_pass (ha : addrNum a = (bodyHandle r).addr.toNat) (hargs : accessArgsOk k r = true)
    (hc : s.checkAccess h (bodyHandle r) = .pass a) :
    lineRequestTaken h k r s = (s.setSlot h (some ⟨lineRequestOf k r, false⟩)).grant := by
  have hwell : ¬ (s.checkHandle (bodyHandle r) = .malformed ∨ ¬ accessArgsOk k r) := by
    rw [State.checkHandle_eq ha, hargs]
    split_ifs <;> simp
  rw [lineRequestTaken, if_neg hwell, hc]

theorem lineRequestTaken_of_bad (hb : ¬ (1 ≤ (bodyHandle r).addr.toNat ∧ (bodyHandle r).addr.toNat ≤ 62) ∨ accessArgsOk k r = false) :
    lineRequestTaken h k r s = s.answer h r .invalid .empty := by
  refine if_pos (hb.imp State.checkHandle_malformed fun hargs => ?_)
  simp [hargs]

/-- A reply that a take places alone leaves the port with it (R154). -/
theorem State.taken_post_reply (s : State) (h : HostId) (rest : List Request) (tag : Tag) (kind : Byte) (o : ReplyOutcome)
    (q : Byte) (b : ReplyBody) : (s.taken h rest).post (.reply h tag kind o q b) = s.replied h rest
      { tag := tag, kind := kind, outcome := o, qualifier := q, serial := s.dir.serial, body := b } := by
  simp [State.post, State.taken, State.replied]

end

/-- Settles O25: the first two checks are INVALID, the others are those of `State.checkAccess`. -/
theorem lineRequestFailingACheckIsAnswered : Obligations.LineRequestFailingACheckIsAnswered := by
  intro h r rest s hq hs hc hf hd argsBad answered
  obtain ⟨k, hk, hx⟩ := exec_takeOf_line hq hs hc hf
  have hargs : accessArgsOk k r = true ↔ ¬ argsBad := accessArgsOk_iff hk hf
  have hcode : r.code ≠ codeRecalls := code_ne_recalls fun h => by simp [h] at hc
  have hanswered {o : ReplyOutcome} {b : ReplyBody} (hr : lineRequestTaken h k r (s.taken h rest) =
      (s.taken h rest).post (.reply h r.tag (lineKindCode k) o 0 b)) : answered o b := by
    change exec (takeOf h r) s = _
    rw [hx, hr, State.taken_post_reply, hk]
  refine ⟨fun hbad => ?_, fun hgood a ha => ⟨fun hcur => ?_, fun hcur c hcl hh => ?_, fun hcur hh hdef => ?_⟩⟩
  · change exec (takeOf h r) s = _
    rw [hx, lineRequestTaken_of_bad (hbad.imp_right fun hb => by simpa using hargs.not.2 (not_not.2 hb)), State.taken_answer,
      State.takeQualifier_of_ne hcode]
  · exact hanswered (lineRequestTaken_of_refused ha (hargs.2 hgood)
      (State.checkAccess_stale (s := s.taken h rest) ha hcur) nofun)
  · exact hanswered (lineRequestTaken_of_refused ha (hargs.2 hgood)
      (State.checkAccess_held (s := s.taken h rest) ha hcur hcl hh) nofun)
  · exact hanswered (lineRequestTaken_of_refused ha (hargs.2 hgood)
      (State.checkAccess_deferred (s := s.taken h rest) ha hcur hh hdef) nofun)

/-- A line request at the head of the queue waits while the slot is occupied (R154, R156). -/
theorem exec_takeOf_line_of_slot {h : HostId} {r : Request} {rest : List Request} {s : State} (hq : s.AtHead h r rest)
    (hs : (s.port h).slot ≠ none) (hc : r.code.toNat ∈ [9, 10, 11]) : exec (takeOf h r) s = .next s := by
  obtain ⟨code, tag, body⟩ := r
  have hcode : code = 0x09 ∨ code = 0x0A ∨ code = 0x0B := by simpa using byte_mem_of_toNat_mem hc
  have hwait {k : LineKind} (hk : code = lineKindCode k) : takeLineRequest h k s = .next s :=
    if_pos ⟨Option.isSome_iff_ne_none.2 hs, hq.1, by simp [hq.2, hk]⟩
  rcases hcode with rfl | rfl | rfl
  · exact hwait (k := .read) rfl
  · exact hwait (k := .write) rfl
  · exact hwait (k := .ping) rfl

/-- Settles O26: a request that passes stands in the slot with its operands; an occupied slot holds the queue. -/
theorem lineRequestPassingMovesToTheSlot : Obligations.LineRequestPassingMovesToTheSlot := by
  refine fun h tag ha hg rest s => ⟨?_, fun r hq hs hc => exec_takeOf_line_of_slot hq hs hc⟩
  intro a hs haddr hb hgen hh hdef slotted
  have hmoves {k : LineKind} {body : List Byte} (hq : s.AtHead h ⟨lineKindCode k, tag, body⟩ rest)
      (hf : bodyFits (lineKindCode k) body.length = true) (hargs : accessArgsOk k ⟨lineKindCode k, tag, body⟩ = true)
      (hhd : bodyHandle ⟨lineKindCode k, tag, body⟩ = ⟨ha, hg⟩) :
      takeLineRequest h k s = .next (s.setPort h { s.port h with
        queue := rest, slot := some ⟨lineRequestOf k ⟨lineKindCode k, tag, body⟩, false⟩ }).grant := by
    have hnum : addrNum a = (bodyHandle ⟨lineKindCode k, tag, body⟩).addr.toNat := by rw [hhd, haddr, addrNum_addr8]
    have hpass : (s.taken h rest).checkAccess h (bodyHandle ⟨lineKindCode k, tag, body⟩) = .pass a :=
      State.checkAccess_pass (s := s.taken h rest) hnum ⟨hb, by rw [hhd]; exact hgen.symm⟩ hh hdef
    rw [takeLineRequest_of_slot_none hs, takeRequest_of_atHead hq (by simp), shaped_of_fits hf,
      lineRequestTaken_of_pass hnum hargs hpass, State.setSlot, State.taken, State.setPort_setPort, State.port_setPort_same]
  refine ⟨fun i1 i0 n hq hi hn1 hn2 => ?_, fun i1 i0 data hq hi hd1 hd2 => ?_, fun hq => ?_⟩
  · have hargs : accessArgsOk .read ⟨0x09, tag, [ha, hg, i1, i0, n]⟩ = true := by
      simp only [accessArgsOk, Bool.and_eq_true, decide_eq_true_eq]
      exact ⟨hi, hn1, hn2⟩
    refine (hmoves (k := .read) hq rfl hargs rfl).trans ?_
    rw [lineRequestOf, accessIndex, BitVec.ofNat_toNat]
    rfl
  · have hargs : accessArgsOk .write ⟨0x0A, tag, ha :: hg :: i1 :: i0 :: data⟩ = true := by
      simp only [accessArgsOk, Bool.and_eq_true, decide_eq_true_eq]
      exact ⟨hi, hd1, hd2⟩
    have hfits : bodyFits (lineKindCode .write) (ha :: hg :: i1 :: i0 :: data).length = true := by
      rw [bodyFits_iff]
      simp [lineKindCode, codeWrite]
      omega
    refine (hmoves (k := .write) hq hfits hargs rfl).trans ?_
    rw [lineRequestOf, accessIndex, BitVec.ofNat_toNat]
    rfl
  · have hindex : accessIndex ⟨0x0B, tag, [ha, hg]⟩ = 0 := by
      change (0#8 ++ 0#8).toNat = 0
      decide
    refine (hmoves (k := .ping) hq rfl rfl rfl).trans ?_
    rw [lineRequestOf, lineKindCode, codePing, hindex]
    rfl

end Sys2Proof.Machine
end

section
/-! SUPPORT. Idle steps, power-on reset, the pins and the ports (R27, R148, R152, R157, R159, R165, R169, R175). -/

namespace Sys2Proof.Machine

set_option Elab.async false

open Sys2Proof

/-! ### Idle steps (R175) -/

/-- Settles O2: the expiry found is of a running timer whose step is the time, and one is found where such a timer runs. -/
theorem idleStepLetsTimePass : Obligations.IdleStepLetsTimePass := by
  intro s hp
  have hstep : step s = match s.dueExpiry with | some c => exec c s | none => .next s.tick := by
    rw [step, hp] <;> rfl
  refine ⟨fun hr => ?_, fun hr hn => ?_, fun hr ⟨c, hc⟩ => ?_⟩
  · rw [hstep, State.dueExpiry, if_pos hr, State.tick, if_pos hr]
  · cases hd : s.dueExpiry with
    | none =>
      rw [hstep, hd, State.tick, hr]
      rfl
    | some c => exact absurd (State.dueExpiry_some hd).2 (hn c)
  · cases hd : s.dueExpiry with
    | none => exact absurd hc (State.dueExpiry_none hd hr c)
    | some c' => exact ⟨c', (State.dueExpiry_some hd).2, by rw [hstep, hd]⟩

/-! ### The state in power-on reset (R25, R68, R151) -/

@[simp] theorem State.reset_entry (a : Addr) : State.reset.entry a = {} := Vector.getElem_replicate _

@[simp] theorem State.reset_port (h : HostId) : State.reset.port h = {} := Vector.getElem_replicate _

theorem State.reset_directoryLaw : State.reset.DirectoryLaw where
  params := by decide
  entries a := by rw [State.reset_entry]; decide
  uids := by
    refine ⟨fun a => ?_, nofun, fun a b h => ?_, Nat.zero_le _, List.nodup_nil, List.nodup_nil, nofun, nofun⟩
    · simp
    · simp at h
  round := by
    refine ⟨fun a => ?_, by decide, by decide, fun a h => ?_⟩
    · rw [State.reset_entry]
      exact ⟨nofun, fun ⟨h, _⟩ => h.elim nofun nofun⟩
    · simp at h
  parked := by decide
  line := by
    refine ⟨nofun, nofun, fun h => ?_, by decide, by decide, nofun, by decide⟩
    rw [State.reset_port]
    exact ⟨nofun, nofun⟩
  pass := nofun

theorem State.reset_openTags (h : HostId) : State.reset.openTags h = [] := by
  unfold State.openTags
  simp only [State.reset_port, State.reset_entry]
  simp [State.reset]

/-- Settles O4: nothing is queued, bound, claimed, deferred, granted or running yet, apart from an engine that waits. -/
theorem resetMeetsEveryLaw : Obligations.ResetMeetsEveryLaw := by
  refine ⟨fun h => ?_, nofun, fun a c hc => ?_, nofun, State.reset_directoryLaw, fun h => ?_, fun n c hr => ?_⟩
  · rw [State.reset_port]; decide
  · simp at hc
  · rw [State.reset_openTags, State.reset_port]
    simp
  · exact Nat.zero_le n

/-! ### Power-on reset (R169) -/

/-- Settles O6: the flag stops the pins and the exchanges. -/
theorem powerOnResetAssertedSilencesThePart : Obligations.PowerOnResetAssertedSilencesThePart := by
  refine fun s => ⟨_, rfl, rfl, rfl, rfl, fun h => rfl, fun h => ⟨?_, ?_, ?_, rfl⟩⟩
  · exact fun code tag body check => rfl
  · exact fun began => rfl
  · exact fun tag check => rfl

section
variable (s : State) (straps : BitVec 4)

theorem State.powerOn_entry (a : Addr) : (s.powerOn straps).entry a = {} := State.reset_entry a

theorem State.powerOn_port (h : HostId) :
    (s.powerOn straps).port h = { manage := straps.getLsbD h.val, held := (s.port h).held } := by
  show (Vector.ofFn _)[h] = _
  simp [powerOnPort]

theorem State.powerOn_busyAddrs : (s.powerOn straps).busyAddrs = [] := by
  simp [State.busyAddrs, State.powerOn_entry]

/-- Nothing is claimed or deferred after power-on reset, so that its line reset places its notice alone. -/
theorem State.powerOn_lineResetItems : (s.powerOn straps).lineResetItems = [] := by
  simp [State.lineResetItems, State.powerOn_entry, Entry.waitersEnd, Entry.deferredAborted, Entry.holderRevoked]

/-- The notice of the line reset POWER_ON reaches every port that HRSTn does not hold (R165, R170). -/
theorem State.powerOn_notice_port (h : HostId) {t : State} (ht : t.port h = (s.powerOn straps).port h) (hs : t.dir.serial = 0) :
    (t.post (.notice (.lineReset .powerOn))).port h =
      { manage := straps.getLsbD h.val, held := (s.port h).held,
        outbound := if (s.port h).held then [] else [.notice { serial := 0, body := .lineReset .powerOn }] } := by
  rw [State.post, State.port_offerAll, ht, State.powerOn_port, hs]
  cases (s.port h).held <;>
    simp [Port.wants, maskBit, Config.defaultMask, Port.offer, Port.freeSpace, Config.outboundCapacity]

/-- The line reset after power-on reset finds nothing to clear. -/
theorem State.powerOn_resetBegun : (s.powerOn straps).resetBegun .powerOn [] =
    { s.powerOn straps with line := { reset := some ⟨.cutPending, .powerOn, []⟩ } } := by
  have hcleared : (s.powerOn straps).resetDirectory = s.powerOn straps := by
    refine State.ext_reads (fun h => ?_) (fun a => ?_) ?_ ?_ ?_ ?_
    · unfold State.resetDirectory; rw [State.powerOn_busyAddrs]; rfl
    · rw [State.resetDirectory_entry, State.powerOn_entry]; rfl
    all_goals unfold State.resetDirectory; rw [State.powerOn_busyAddrs]; rfl
  unfold State.resetBegun
  rw [hcleared]
  rfl

end

/-- Settles O5: the blocks' values stand in `State.powerOn`; the line reset finds an empty directory. -/
theorem powerOnResetEndLeavesStatedValues : Obligations.PowerOnResetEndLeavesStatedValues := by
  intro straps s hr
  have hbegun : (s.powerOn straps).beginLineReset .powerOn [] = ({ s.powerOn straps with
      line := { reset := some ⟨.cutPending, .powerOn, []⟩ } } : State).post (.notice (.lineReset .powerOn)) := by
    rw [State.beginLineReset_eq, State.powerOn_lineResetItems, State.powerOn_resetBegun]
    rfl
  refine ⟨_, if_pos hr, ?_⟩
  rw [hbegun]
  refine ⟨s.powerOn_entry straps, rfl, rfl, rfl, rfl, rfl, rfl, rfl, rfl, rfl, rfl, rfl, rfl, rfl, rfl, rfl, rfl, rfl, rfl, rfl,
    rfl, fun h => ?_⟩
  rw [State.powerOn_notice_port s straps h
    (t := { s.powerOn straps with line := { reset := some ⟨.cutPending, .powerOn, []⟩ } }) rfl rfl]
  exact ⟨rfl, rfl, rfl, rfl, rfl, rfl, rfl, rfl⟩

/-! ### Replies and notices (R148, R157, R160, R165) -/

/-- A port as a reply leaves it (R157, R160). -/
theorem Port.placeReply_of_owed {p : Port} {r : Reply} (ho : r.tag ∈ p.owed) :
    p.placeReply r = { p with outbound := p.outbound ++ [.reply r], owed := p.owed.erase r.tag } := if_pos ho

theorem Port.placeReply_of_not_owed {p : Port} {r : Reply} (ho : r.tag ∉ p.owed) : p.placeReply r = p := if_neg ho

theorem State.setPort_port_self (s : State) (h : HostId) : s.setPort h (s.port h) = s := by
  refine State.ext_reads (fun g => ?_) (fun _ => rfl) rfl rfl rfl rfl
  rw [State.port_setPort]
  split
  · next he => rw [he]
  · rfl

/-- A port as a notice offered to it leaves it (R157, R165). -/
theorem Port.offer_eq (p : Port) (n : Notice) : p.offer n =
    if p.held = true then p
    else if 24 ≤ p.outbound.length + p.owed.length then { p with overrun := true }
    else { p with outbound := p.outbound ++ [.notice n] } := by
  have hfull : p.freeSpace = 0 ↔ 24 ≤ p.outbound.length + p.owed.length := by
    unfold Port.freeSpace Config.outboundCapacity
    omega
  unfold Port.offer
  simp only [hfull]

/-- Settles O24: the placing of one item, port by port. -/
theorem repliesAndNoticesArePlaced : Obligations.RepliesAndNoticesArePlaced := by
  refine fun s => ⟨fun h tag kind o q b => ⟨fun ho => ?_, fun ho => ?_⟩, fun b => ⟨rfl, fun g => ?_⟩, fun h b => ?_⟩
  · rw [State.post, Port.placeReply_of_owed ho]
  · rw [State.post, Port.placeReply_of_not_owed ho, State.setPort_port_self]
  · rw [State.post, State.port_offerAll]
    change _ = if (s.port g).wants b = true ∧ (s.port g).held = false then _ else _
    rw [Port.offer_eq]
    cases (s.port g).wants b <;> cases hh : (s.port g).held <;> simp
  · rw [State.post, Port.offer_eq]

/-! ### The pins (R27, R32, R159) -/

/-- Settles O52: the pins are read off the line controller's state and record. -/
theorem pinsFollowTheState : Obligations.PinsFollowTheState := by
  intro s hr hheld
  have hfda : s.fda = match s.line.state, s.line.reset, s.line.record with
      | .command, some _, none => .token resetToken
      | .command, _, some t => .token t.token
      | .burstOut, _, some t => .burst (burstFrame t.buffer)
      | .resetHold, some lr, _ => if lr.phase = .hold then .low else .released
      | _, _, _ => .released := by
    rw [State.fda, if_neg (by simp [hr])] <;> rfl
  refine ⟨fun h => ?_, if_neg (by simp [hr]), fun lr hl hlr => ⟨fun hp => ?_, fun hp => ?_⟩, fun t hl ht => ?_,
    fun lr hl ht hlr => ?_, fun t hl ht => ?_, fun hl => ?_⟩
  · have hempty : (s.port h).held = true → (s.port h).outbound = [] := fun hh => (hheld hr h hh).2.2.1
    rw [State.hatn, hr]
    cases hh : (s.port h).held with
    | false => simp
    | true => simp [hempty hh]
  · rw [hfda, hl, hlr]
    exact if_pos hp
  · rw [hfda, hl, hlr]
    exact if_neg (by simp [hp])
  · rw [hfda, hl, ht]
    cases s.line.reset <;> rfl
  · rw [hfda, hl, ht, hlr]
    rfl
  · rw [hfda, hl, ht]
    cases s.line.reset <;> simp [burstFrame]
  · rw [hfda]
    simp only [List.mem_cons, List.not_mem_nil, or_false] at hl
    rcases hl with hl | hl | hl | hl | hl | hl <;> rw [hl]

end Sys2Proof.Machine
end

section
/-! SUPPORT. The select periods (R152), and the port reset in every block that holds the host's work (R90, R116, R135, R163 to
R165). -/

namespace Sys2Proof.Machine

set_option Elab.async false

open Sys2Proof

/-! ### Select periods (R152, Section 12.1) -/

theorem exchangeOf_of_unknown {first : Byte} (hf : first ∉ [0xA1, 0xA2, 0xA3, 0xA4]) : exchangeOf first = none := by
  refine List.find?_eq_none.2 fun x _ hx => hf ?_
  rw [← beq_iff_eq.1 hx]
  cases x <;> decide

/-- A REQUEST frame is whole with its check byte (R152). -/
theorem requestFrame_of_whole (h : HostId) (code tag check : Byte) {body : List Byte} (hb : body.length ≤ 255) (later : List Byte) :
    requestFrame h (code :: tag :: BitVec.ofNat 8 body.length :: (body ++ check :: later)) = some (.request h code tag body check) := by
  have hlen : (BitVec.ofNat 8 body.length).toNat = body.length := by
    rw [BitVec.toNat_ofNat]; omega
  simp [requestFrame, hlen]

/-- Short of its check byte a REQUEST frame is not taken (R152). -/
theorem requestFrame_of_short (h : HostId) (code tag check : Byte) {body : List Byte} (hb : body.length ≤ 255) {n : Nat}
    (hn : n < body.length + 4) :
    requestFrame h ((code :: tag :: BitVec.ofNat 8 body.length :: (body ++ [check])).take n) = none := by
  have hlen : (BitVec.ofNat 8 body.length).toNat = body.length := by
    rw [BitVec.toNat_ofNat]; omega
  match n, hn with
  | 0, _ | 1, _ | 2, _ => rfl
  | n + 3, hn =>
    have hshort : ((body ++ [check]).take n)[body.length]? = none := by
      rw [List.getElem?_eq_none_iff, List.length_take]
      omega
    simp only [List.take_succ_cons, requestFrame, hlen, hshort, Option.map_none]

/-- Settles O10: each exchange by its frame, and a held port by its flag. -/
theorem unknownExchangesAndHeldPorts : Obligations.UnknownExchangesAndHeldPorts := by
  refine fun h s => ⟨fun began => ?_, fun hr hh first hf => ?_, fun hh => ?_⟩
  · refine ⟨rfl, fun code tag check body later hb => ⟨?_, fun n hn => ?_⟩, fun sent => ?_, fun tag check later => rfl,
      fun sent hs => ?_, fun sent => rfl, fun first sent hf => ?_⟩
    · refine Eq.trans ?_ (requestFrame_of_whole h code tag check hb later)
      simp only [List.cons_append, List.append_assoc]
      rfl
    · match n with
      | 0 => rfl
      | n + 1 => exact requestFrame_of_short h code tag check hb (by simp at hn; omega)
    · rfl
    · match sent, hs with
      | [], _ | [_], _ => rfl
    · rw [State.selectPeriod, exchangeOf_of_unknown hf]
  · have hnot : exchangeBytes.contains first = false := by simpa [exchangeBytes, exchanges, Exchange.byte] using hf
    change execUnknownExchange h first s = _
    rw [execUnknownExchange, hnot, if_neg Bool.false_ne_true, exchange_of_taken hr hh]
    rfl
  · have hignored (act : State) : exchange h s act = .next s := if_neg (by simp [State.takesExchanges, hh])
    refine ⟨fun code tag body check => hignored _, fun began => hignored _, fun tag check => hignored _, hignored _,
      fun first hf => ?_⟩
    have hnot : exchangeBytes.contains first = false := by simpa [exchangeBytes, exchanges, Exchange.byte] using hf
    change execUnknownExchange h first s = _
    rw [execUnknownExchange, hnot, if_neg Bool.false_ne_true, hignored]

/-! ### The edges of HRSTn (R165) -/

/-- Settles O12: the falling edge is the port reset, whose port is then held and gives nothing back. -/
theorem hrstnEdgesResetAndReleaseThePort : Obligations.HrstnEdgesResetAndReleaseThePort := by
  refine fun h s => ⟨fun hh hr => ?_, fun hh hr => ?_, fun hh => if_pos hh⟩
  · refine ⟨_, exchange_of_taken hr hh _, ?_⟩
    change execHrstnFall h s = _
    rw [execHrstnFall, if_neg (by simp [hh]), if_neg (by simp [hr])]
    refine congrArg Host.Outcome.next ?_
    generalize s.resetPort h = u
    simp only [State.setHeld, State.giveBack, State.port_setPort_same, State.setPort_setPort]
  · change execHrstnFall h s = _
    rw [execHrstnFall, if_neg (by simp [hh]), if_pos hr]
    rfl

/-! ### Items that reach no port of a host -/

/-- A reply to another host than `h`. -/
def Post.RepliesToOther (h : HostId) (p : Post) : Prop := ∃ g tag kind o q b, p = .reply g tag kind o q b ∧ g ≠ h

section
variable {s t : State} {g h : HostId}

theorem State.post_port_of_other {p : Post} (hp : p.RepliesToOther h) : (s.post p).port h = s.port h := by
  obtain ⟨g, tag, kind, o, q, b, rfl, hg⟩ := hp
  exact s.port_setPort_ne hg.symm _

theorem State.postAll_port_of_other {ps : List Post} (hp : ∀ p ∈ ps, p.RepliesToOther h) : (s.postAll ps).port h = s.port h := by
  induction ps generalizing s with
  | nil => rfl
  | cons p ps ih =>
    rw [State.postAll_cons, ih fun q hq => hp q (List.mem_cons_of_mem _ hq), State.post_port_of_other (hp p List.mem_cons_self)]

/-- Replies raise no overrun flag (R157). -/
theorem State.postAll_overrun_of_replies {ps : List Post} (hp : ∀ p ∈ ps, p.RepliesToOther h) :
    ((s.postAll ps).port g).overrun = (s.port g).overrun := by
  induction ps generalizing s with
  | nil => rfl
  | cons p ps ih =>
    rw [State.postAll_cons, ih fun q hq => hp q (List.mem_cons_of_mem _ hq)]
    obtain ⟨k, tag, kind, o, q, b, rfl, -⟩ := hp p List.mem_cons_self
    rw [State.post, State.port_setPort]
    split
    · next he => rw [Port.placeReply_overrun, he]
    · rfl

/-- What an item makes of a port depends on the port and the serial alone. -/
theorem State.post_port_congr (p : Post) (hp : s.port g = t.port g) (hs : s.dir.serial = t.dir.serial) :
    (s.post p).port g = (t.post p).port g := by
  cases p with
  | reply h tag kind o q b =>
    simp only [State.post, State.port_setPort, hs]
    split
    · next he => rw [← he, hp]
    · exact hp
  | notice b => simp only [State.post, State.port_offerAll, hp, hs]
  | noticeTo h b =>
    simp only [State.post, State.port_setPort, hs]
    split
    · next he => rw [← he, hp]
    · exact hp

theorem State.postAll_port_congr (ps : List Post) (hp : s.port g = t.port g) (hs : s.dir.serial = t.dir.serial) :
    (s.postAll ps).port g = (t.postAll ps).port g := by
  induction ps generalizing s t with
  | nil => exact hp
  | cons p ps ih => exact ih (State.post_port_congr p hp hs) (by simpa using hs)

/-! ### The claim unit's part in a port reset (R135) -/

/-- The handles that are current are the same, and so is the time. -/
structure State.SameHandles (s t : State) : Prop where
  bound : ∀ a, (t.entry a).bound = (s.entry a).bound
  gen : ∀ a, (t.entry a).gen = (s.entry a).gen
  time : t.time = s.time

theorem State.SameHandles.checkHandle (k : s.SameHandles t) (hd : Handle) : t.checkHandle hd = s.checkHandle hd := by
  simp only [State.checkHandle, k.bound, k.gen]

/-- The next holder depends on the current handles and the time alone (R124). -/
theorem State.SameHandles.nextHolder (k : s.SameHandles t) (ws : List WaitItem) : t.nextHolder ws = s.nextHolder ws := by
  induction ws with
  | nil => rfl
  | cons w ws ih => simp only [State.nextHolder, k.checkHandle, k.time, ih]

/-- A handover answers waiting CLAIMs alone (R124). -/
theorem State.mem_nextHolder_items {ws : List WaitItem} {p : Post} (hp : p ∈ (s.nextHolder ws).2) :
    ∃ w ∈ ws, ∃ o b, p = w.reply o b := by
  induction ws with
  | nil => cases hp
  | cons w ws ih =>
    rw [State.nextHolder] at hp
    split at hp
    · exact ⟨w, List.mem_cons_self, _, _, List.mem_singleton.1 hp⟩
    · rcases List.mem_cons.1 hp with rfl | hp
      · exact ⟨w, List.mem_cons_self, _, _, rfl⟩
      · obtain ⟨x, hx, hr⟩ := ih hp
        exact ⟨x, List.mem_cons_of_mem _ hx, hr⟩

/-- What a reset of host `h`'s port leaves of the claim at `a`, and the items of its handover (R135). -/
def State.claimAfterReset (s : State) (h : HostId) (a : Addr) : Option Claim × List Post :=
  match (s.entry a).claim with
  | none => (none, [])
  | some c =>
    let ws := c.waits.filter fun w => w.host ≠ h
    if c.holder = h then s.nextHolder ws else (some { c with waits := ws }, [])

theorem State.mem_claimAfterReset_items {a : Addr} {p : Post} (hp : p ∈ (s.claimAfterReset h a).2) : p.RepliesToOther h := by
  unfold State.claimAfterReset at hp
  split at hp
  · cases hp
  · dsimp only at hp
    split at hp
    · obtain ⟨w, hw, o, b, rfl⟩ := State.mem_nextHolder_items hp
      exact ⟨w.host, _, _, _, _, _, rfl, by simpa using (List.mem_filter.1 hw).2⟩
    · cases hp

end

theorem State.setEntry_entry_self (s : State) (a : Addr) : s.setEntry a (s.entry a) = s := by
  refine State.ext_reads (fun _ => rfl) (fun b => ?_) rfl rfl rfl rfl
  rw [State.entry_setEntry]
  split
  · next he => rw [he]
  · rfl

theorem State.setEntry_claim_self {s : State} {a : Addr} {x : Option Claim} (hx : (s.entry a).claim = x) :
    s.setEntry a { s.entry a with claim := x } = s := by
  subst hx
  exact s.setEntry_entry_self a

section
variable {s t : State} {h : HostId}

/-- One step of the handovers sets the claim that the reset leaves there and places its items. -/
theorem releaseHeld_eq {a : Addr} {ps : List Post} (k : s.SameHandles t) (he : t.entry a = (s.entry a).dropWaits h) :
    releaseHeld h (t, ps) a =
      (t.setEntry a { t.entry a with claim := (s.claimAfterReset h a).1 }, ps ++ (s.claimAfterReset h a).2) := by
  have hclaim : (t.entry a).claim = (s.entry a).claim.map fun c => { c with waits := c.waits.filter fun w => w.host ≠ h } := by
    rw [he]; rfl
  unfold State.claimAfterReset
  cases hc : (s.entry a).claim with
  | none =>
    have hnone : (t.entry a).claim = none := by rw [hclaim, hc, Option.map_none]
    have hself := State.setEntry_claim_self hnone
    simp only [releaseHeld, hnone, List.append_nil, hself]
  | some c =>
    have hsome : (t.entry a).claim = some { c with waits := c.waits.filter fun w => w.host ≠ h } := by
      rw [hclaim, hc, Option.map_some]
    by_cases hh : c.holder = h
    · simp only [releaseHeld, hsome, if_pos hh, State.handOver, k.nextHolder]
    · have hself := State.setEntry_claim_self hsome
      simp only [releaseHeld, hsome, if_neg hh, List.append_nil, hself]

/-- The handovers over any addresses whose claims have not been handed over yet. -/
theorem foldl_releaseHeld_eq {as : List Addr} (hn : as.Nodup) {ps : List Post} (k : s.SameHandles t)
    (he : ∀ a ∈ as, t.entry a = (s.entry a).dropWaits h) :
    (as.foldl (releaseHeld h) (t, ps)).2 = ps ++ as.flatMap (fun a => (s.claimAfterReset h a).2) ∧
    (∀ a, (as.foldl (releaseHeld h) (t, ps)).1.entry a =
      if a ∈ as then { t.entry a with claim := (s.claimAfterReset h a).1 } else t.entry a) ∧
    ∃ es, (as.foldl (releaseHeld h) (t, ps)).1 = { t with dir := { t.dir with entries := es } } := by
  induction as generalizing t ps with
  | nil => exact ⟨by simp, by simp, t.dir.entries, rfl⟩
  | cons a as ih =>
    obtain ⟨ha, hn⟩ := List.nodup_cons.1 hn
    have hne : ∀ b ∈ as, b ≠ a := fun b hb e => ha (e ▸ hb)
    rw [List.foldl_cons, releaseHeld_eq k (he a List.mem_cons_self)]
    have hsame : s.SameHandles (t.setEntry a { t.entry a with claim := (s.claimAfterReset h a).1 }) := by
      refine ⟨fun b => ?_, fun b => ?_, k.time⟩ <;> rw [State.entry_setEntry] <;> split
      · next hb => rw [hb]; exact k.bound a
      · exact k.bound b
      · next hb => rw [hb]; exact k.gen a
      · exact k.gen b
    obtain ⟨hitems, hentry, es, hrest⟩ := ih hn (ps := ps ++ (s.claimAfterReset h a).2) hsame fun b hb => by
      rw [State.entry_setEntry_ne _ (hne b hb)]
      exact he b (List.mem_cons_of_mem _ hb)
    refine ⟨by rw [hitems, List.append_assoc, List.flatMap_cons], fun b => ?_, es, hrest⟩
    rw [hentry, State.entry_setEntry]
    by_cases hb : b = a
    · rw [if_neg (hb ▸ ha), if_pos hb, if_pos (hb ▸ List.mem_cons_self), hb]
    · simp [hb]

section
variable (s h)

theorem State.resetClaims_eq :
    (s.resetClaims h).2 = allAddrs.flatMap (fun a => (s.claimAfterReset h a).2) ∧
    (∀ a, (s.resetClaims h).1.entry a = { s.entry a with claim := (s.claimAfterReset h a).1 }) ∧
    ∃ es, (s.resetClaims h).1 = { s with dir := { s.dir with entries := es } } := by
  have hsame : s.SameHandles (s.mapEntries fun e => e.dropWaits h) :=
    ⟨fun a => by rw [State.entry_mapEntries]; rfl, fun a => by rw [State.entry_mapEntries]; rfl, rfl⟩
  have hfold := foldl_releaseHeld_eq (as := allAddrs) (h := h) (ps := []) (List.nodup_finRange 62) hsame
    fun a _ => State.entry_mapEntries ..
  rw [List.nil_append] at hfold
  rw [State.resetClaims]
  obtain ⟨hitems, hentry, es, hrest⟩ := hfold
  refine ⟨hitems, fun a => (hentry a).trans ?_, es, hrest⟩
  rw [if_pos (mem_allAddrs a), State.entry_mapEntries]
  unfold Entry.dropWaits
  with_reducible rfl

/-- A reset of host `h`'s port reaches the entries through their claims and deferred records alone (R116, R135). -/
theorem State.portCleared_entry (a : Addr) : (s.portCleared h).entry a = { s.entry a with
    claim := (s.claimAfterReset h a).1
    deferred := (s.entry a).deferred.map fun d => if d.owner = some h then { d with owner := none } else d } := by
  have hsame : (s.portCleared h).entry a = ((s.resetClaims h).1.mapEntries fun e => e.disown h).entry a := by
    unfold State.portCleared
    generalize s.resetClaims h = claims
    rfl
  rw [hsame, State.entry_mapEntries, (s.resetClaims_eq h).2.1]
  unfold Entry.disown
  with_reducible rfl

/-- Beside the entries a reset of host `h`'s port reaches the line and that port (R90, R163). -/
theorem State.portCleared_rest : ∃ es, s.portCleared h = (({ s with
    dir := { s.dir with entries := es }
    line := { s.line with
      record := s.line.record.map fun t => if t.owner = .host h then { t with replyDropped := true } else t
      reset := s.line.reset.map fun lr => { lr with requesters := lr.requesters.filter fun q => q.host ≠ h } } } :
    State).setPort h (s.port h).afterReset) := by
  obtain ⟨-, -, es, hrest⟩ := s.resetClaims_eq h
  unfold State.portCleared
  rw [hrest]
  exact ⟨es.map fun e => e.disown h, rfl⟩

end

end

end Sys2Proof.Machine
end

section
/-! SUPPORT. HOST_RESET (R163): what the port reset leaves of every block. -/

namespace Sys2Proof.Machine

set_option Elab.async false

open Sys2Proof

section
variable (s : State) (h : HostId)

/-- Items reach the ports alone (R149). -/
theorem State.postAll_rest (ps : List Post) : ∃ ports, s.postAll ps = { s with ports := ports } := by
  induction ps generalizing s with
  | nil => exact ⟨s.ports, rfl⟩
  | cons p ps ih =>
    have hpost : ∃ ports, s.post p = { s with ports := ports } := by cases p <;> exact ⟨_, rfl⟩
    obtain ⟨ports, hpost⟩ := hpost
    obtain ⟨ports', hrest⟩ := ih (s.post p)
    refine ⟨ports', ?_⟩
    rw [State.postAll_cons, hrest, hpost]

theorem State.portCleared_port_self : (s.portCleared h).port h = (s.port h).afterReset := by
  obtain ⟨es, hs⟩ := s.portCleared_rest (h := h)
  rw [hs, State.port_setPort_same]

theorem State.portCleared_port_ne {g : HostId} (hg : g ≠ h) : (s.portCleared h).port g = s.port g := by
  obtain ⟨es, hs⟩ := s.portCleared_rest (h := h)
  rw [hs, State.port_setPort_ne _ hg]
  rfl

theorem State.portCleared_line : (s.portCleared h).line = { s.line with
    record := s.line.record.map fun t => if t.owner = .host h then { t with replyDropped := true } else t
    reset := s.line.reset.map fun lr => { lr with requesters := lr.requesters.filter fun q => q.host ≠ h } } := by
  obtain ⟨es, hs⟩ := s.portCleared_rest (h := h)
  rw [hs]
  rfl

theorem State.portCleared_serial : (s.portCleared h).dir.serial = s.dir.serial := by
  obtain ⟨es, hs⟩ := s.portCleared_rest (h := h)
  rw [hs]
  rfl

/-- What a port gives back is its own (R152). -/
theorem State.giveBack_rest (bytes : List Byte) : (∀ a, (s.giveBack h bytes).entry a = s.entry a) ∧
    (s.giveBack h bytes).line = s.line := ⟨fun _ => rfl, rfl⟩

/-- The items of a port reset are replies to other hosts (R124, R135). -/
theorem State.resetClaims_items : ∀ p ∈ (s.resetClaims h).2, p.RepliesToOther h := by
  intro p hp
  rw [(s.resetClaims_eq h).1] at hp
  obtain ⟨a, -, hp⟩ := List.mem_flatMap.1 hp
  exact State.mem_claimAfterReset_items hp

end

section
variable {s : State} {h : HostId}

theorem State.claimAfterReset_none {a : Addr} (hc : (s.entry a).claim = none) : s.claimAfterReset h a = (none, []) := by
  unfold State.claimAfterReset
  rw [hc]

theorem State.claimAfterReset_other {a : Addr} {c : Claim} (hc : (s.entry a).claim = some c) (hh : c.holder ≠ h) :
    s.claimAfterReset h a = (some { c with waits := c.waits.filter fun w => w.host ≠ h }, []) := by
  unfold State.claimAfterReset
  rw [hc]
  exact if_neg hh

theorem State.claimAfterReset_held {a : Addr} {c : Claim} (hc : (s.entry a).claim = some c) (hh : c.holder = h) :
    s.claimAfterReset h a = s.nextHolder (c.waits.filter fun w => w.host ≠ h) := by
  unfold State.claimAfterReset
  rw [hc]
  exact if_pos hh

/-- With nobody else waiting for a claim of host `h` its reset places no item. -/
theorem State.resetClaims_no_items (hn : ∀ a c, (s.entry a).claim = some c → c.holder = h → ∀ w ∈ c.waits, w.host = h) :
    (s.resetClaims h).2 = [] := by
  rw [(s.resetClaims_eq h).1]
  refine List.flatMap_eq_nil_iff.2 fun a _ => ?_
  cases hc : (s.entry a).claim with
  | none => rw [State.claimAfterReset_none hc]
  | some c =>
    by_cases hh : c.holder = h
    · have hw : (c.waits.filter fun w => w.host ≠ h) = [] := List.filter_eq_nil_iff.2 fun w hw => by simp [hn a c hc hh w hw]
      rw [State.claimAfterReset_held hc hh, hw]
      rfl
    · rw [State.claimAfterReset_other hc hh]

/-- A handover leaves at its entry the holder it chose (R124). -/
theorem State.handOver_claim (s : State) (a : Addr) (ws : List WaitItem) :
    ((s.handOver a ws).1.entry a).claim = (s.nextHolder ws).1 := by
  rw [State.handOver, State.entry_setEntry_same]

end

/-- Settles O11: the port reset block by block, its items replies to the hosts that waited for the host's claims. -/
theorem hostResetReachesAllWorkOfTheHost : Obligations.HostResetReachesAllWorkOfTheHost := by
  intro h s hr hh
  dsimp only
  have hitems : (s.resetClaims h).2 = allAddrs.flatMap fun a => match (s.entry a).claim with
      | some c => if c.holder = h then (s.handOver a (c.waits.filter fun w => w.host ≠ h)).2.1 else []
      | none => [] := by
    rw [(s.resetClaims_eq h).1]
    refine congrArg (List.flatMap · allAddrs) (funext fun a => ?_)
    cases hc : (s.entry a).claim with
    | none => rw [State.claimAfterReset_none hc]
    | some c =>
      by_cases hh : c.holder = h
      · rw [State.claimAfterReset_held hc hh]
        exact (if_pos hh).symm
      · rw [State.claimAfterReset_other hc hh]
        exact (if_neg hh).symm
  have hother := s.resetClaims_items h
  have hdone : exec (.hostReset h) s = .next ((s.resetPort h).giveBack h [0x30]) := exchange_of_taken hr hh _
  have hport (g : HostId) (hg : g ≠ h) : ((s.resetPort h).giveBack h [0x30]).port g = (s.postAll (s.resetClaims h).2).port g := by
    rw [State.giveBack, State.port_setPort_ne _ hg, State.resetPort_eq]
    exact State.postAll_port_congr _ (s.portCleared_port_ne h hg) (s.portCleared_serial h)
  refine ⟨_, hdone, ?_, fun g hg => ⟨(hport g hg).trans (congrArg (fun ps => (s.postAll ps).port g) hitems), ?_⟩,
    fun hn g hg => ?_, fun a => ?_, ?_, ?_⟩
  · rw [State.giveBack, State.port_setPort_same, State.resetPort_eq, State.postAll_port_of_other hother, s.portCleared_port_self h]
    rfl
  · rw [hport g hg]
    exact ⟨State.postAll_port_queue .., State.postAll_port_slot .., State.postAll_port_mask .., State.postAll_port_manage ..,
      State.postAll_port_held .., State.postAll_overrun_of_replies hother, State.postAll_port_hdo ..⟩
  · rw [hport g hg, State.resetClaims_no_items hn]
    rfl
  · have hentry : ((s.resetPort h).giveBack h [0x30]).entry a = (s.portCleared h).entry a := by
      rw [(State.giveBack_rest _ h _).1, State.resetPort_eq, State.postAll_entry]
    rw [hentry, s.portCleared_entry h a]
    refine ⟨rfl, rfl, fun hc => congrArg Prod.fst (State.claimAfterReset_none hc), fun c hc => ⟨fun hh => ?_, fun hh => ?_⟩⟩
    · exact congrArg Prod.fst (State.claimAfterReset_other hc hh)
    · exact (congrArg Prod.fst (State.claimAfterReset_held hc hh)).trans (s.handOver_claim a _).symm
  · rw [(State.giveBack_rest _ h _).2, State.resetPort_eq, State.postAll_line, s.portCleared_line h]
  · obtain ⟨es, hs⟩ := s.portCleared_rest (h := h)
    obtain ⟨ports, hp⟩ := (s.portCleared h).postAll_rest (s.resetClaims h).2
    rw [State.resetPort_eq, hp, hs]
    rfl

end Sys2Proof.Machine
end

section
/-! SUPPORT. The scheduler (Chapter 4): the candidates of a free line, the choice among them, and the record of each grant. -/

namespace Sys2Proof.Machine

set_option Elab.async false

open Sys2Proof

/-! ### Candidates (R70, R71, R75) -/

section
variable {s t : State} {h : HostId}

theorem Port.candidate_iff {p : Port} : p.candidate = true ↔ ∃ r, p.slot = some { req := r, granted := false } := by
  unfold Port.candidate
  cases hs : p.slot with
  | none => simp
  | some sl =>
    obtain ⟨r, granted⟩ := sl
    cases granted <;> simp

theorem Entry.pollDue_iff {e : Entry} : e.pollDue = true ↔ ∃ d, e.deferred = some d ∧ d.phase = .due := by
  unfold Entry.pollDue
  cases e.deferred <;> simp

theorem State.duePoll_isSome_iff : s.duePoll.isSome = true ↔ ∃ a d, (s.entry a).deferred = some d ∧ d.phase = .due := by
  simp only [State.duePoll, List.find?_isSome, mem_allAddrs, true_and, Entry.pollDue_iff]

theorem Entry.eligible_iff {e : Entry} : e.eligible = true ↔ e.bound = true ∧ e.deferred = none := by
  simp [Entry.eligible]

theorem State.sweepNext_isSome_iff : s.sweepNext.isSome = true ↔
    s.sweep.active = true ∧ ∃ a, s.sweep.cursor ≤ a ∧ (s.entry a).bound = true ∧ (s.entry a).deferred = none := by
  unfold State.sweepNext
  split
  · next hs => simp [State.nextEligible, hs, Entry.eligible_iff]
  · next hs => simp [hs]

/-- The system side waits for the engine, a due poll or a pass with an entry to ping (R71, R73). -/
theorem State.systemWaits_iff : s.systemWaits = true ↔
    s.engine.state = .waiting ∨ (∃ a d, (s.entry a).deferred = some d ∧ d.phase = .due) ∨
      (s.sweep.active = true ∧ ∃ a, s.sweep.cursor ≤ a ∧ (s.entry a).bound = true ∧ (s.entry a).deferred = none) := by
  rw [State.systemWaits, Bool.or_eq_true, Bool.or_eq_true, State.duePoll_isSome_iff, State.sweepNext_isSome_iff, beq_iff_eq, or_assoc]

theorem mem_rotationOrder (p h : HostId) : h ∈ rotationOrder p := by
  revert p h
  decide

theorem State.nextHost_eq_none_iff : s.nextHost = none ↔ ∀ h, (s.port h).candidate = false := by
  simp [State.nextHost, mem_rotationOrder]

/-- The rotation chooses the candidate that comes first after the pointer (R75). -/
theorem State.nextHost_eq_some (hc : (s.port h).candidate = true)
    (hfirst : ∀ g, g ≠ h → (g - s.sched.rotation - 1).val < (h - s.sched.rotation - 1).val → (s.port g).candidate = false) :
    s.nextHost = some h := by
  have hplace : ∀ p h : HostId, h = p + 1 ∨ h = p + 2 ∨ h = p + 3 ∨ h = p := by decide
  have hbefore (i j : HostId) (hij : ∀ p : HostId, p + i ≠ p + j ∧ (p + i - p - 1).val < (p + j - p - 1).val)
      (hj : h = s.sched.rotation + j) : (s.port (s.sched.rotation + i)).candidate = false := by
    subst hj
    exact hfirst _ (hij _).1 (hij _).2
  unfold State.nextHost rotationOrder
  rcases hplace s.sched.rotation h with hp | hp | hp | hp
  · simp [← hp, hc]
  · simp [← hp, hc, hbefore 1 2 (by decide) hp]
  · simp [← hp, hc, hbefore 1 3 (by decide) hp, hbefore 2 3 (by decide) hp]
  · have hp0 : h = s.sched.rotation + 0 := by simp [hp]
    simp [← hp, hc, hp ▸ hbefore 1 0 (by decide) hp0, hp ▸ hbefore 2 0 (by decide) hp0, hp ▸ hbefore 3 0 (by decide) hp0]

theorem State.candidate_of_nextHost (hn : s.nextHost = some h) : (s.port h).candidate = true :=
  List.find?_some (p := fun h => (s.port h).candidate) hn

/-! ### The choice (R73 to R76) -/

/-- The hosts whose slots are candidates. -/
def State.candidates (s : State) : Finset HostId := Finset.univ.filter fun h => (s.port h).candidate = true

theorem State.mem_candidates : h ∈ s.candidates ↔ (s.port h).candidate = true := by simp [State.candidates]

/-- A slot emptied and its refusal answered leave the other slots. -/
theorem State.candidates_refused (s : State) (h : HostId) (ps : List Post) :
    ((s.setSlot h none).postAll ps).candidates = s.candidates.erase h := by
  ext g
  have hslot : (((s.setSlot h none).postAll ps).port g).slot = if g = h then none else (s.port g).slot := by
    rw [State.postAll_port_slot, State.setSlot, State.port_setPort]
    split <;> rfl
  have hcand {p q : Port} (hpq : p.slot = q.slot) : p.candidate = q.candidate := by
    unfold Port.candidate
    rw [hpq]
  rw [Finset.mem_erase, State.mem_candidates, State.mem_candidates]
  by_cases hg : g = h
  · rw [if_pos hg] at hslot
    have hnot : (((s.setSlot h none).postAll ps).port g).candidate = false := by
      unfold Port.candidate
      rw [hslot]
    rw [hnot]
    simp [hg]
  · rw [if_neg hg] at hslot
    simp [hcand hslot, hg]

/-- The answer to a host chosen by the rotation: a grant, or a refusal and another choice (R76). -/
theorem State.choose_host (n : Nat) {r : LineRequest} (hn : s.nextHost = some h)
    (hs : (s.port h).slot = some { req := r, granted := false }) (hside : (s.systemWaits && s.sched.side == .system) = false) :
    State.choose (n + 1) s = match s.checkAccess h r.handle with
      | .pass a => (s.setRotation h).grantHost h a r
      | c => State.choose n (((s.setRotation h).setSlot h none).postAll (refusedAccess h r.tag r.kind c)) := by
  have hslot : ((s.setRotation h).port h).slot = some { req := r, granted := false } := hs
  simp only [State.choose, hn, hside, Bool.false_eq_true, if_false, hslot]
  rfl

/-- Refusals use up the candidates, so that more rounds of choice than candidates change nothing. -/
theorem State.choose_fuel {n : Nat} (hn : s.candidates.card < n) : State.choose n s = State.choose (n + 1) s := by
  induction n generalizing s with
  | zero => omega
  | succ n ih =>
    cases hh : s.nextHost with
    | none => simp only [State.choose, hh]
    | some h =>
      have hc := State.candidate_of_nextHost hh
      cases hside : s.systemWaits && s.sched.side == .system with
      | true => simp only [State.choose, hh, hside, if_true]
      | false =>
        obtain ⟨r, hr⟩ := Port.candidate_iff.1 hc
        rw [State.choose_host n hh hr hside, State.choose_host (n + 1) hh hr hside]
        cases s.checkAccess h r.handle with
        | pass a => rfl
        | stale | held g | deferred =>
          refine ih ?_
          rw [State.candidates_refused]
          have hcard := Finset.card_erase_lt_of_mem (s := (s.setRotation h).candidates) (State.mem_candidates.2 hc)
          have hsame : (s.setRotation h).candidates = s.candidates := rfl
          rw [hsame] at hcard ⊢
          omega

theorem State.grant_free (hf : s.lineFree = true) : s.grant = State.choose 5 s := if_pos hf

/-- A refusal on a free line is followed by a choice as if the line had just become free (R76). -/
theorem State.choose_refused (hf : s.lineFree = true) (hc : (s.port h).candidate = true) (ps : List Post) :
    State.choose 4 (((s.setRotation h).setSlot h none).postAll ps) = (((s.setRotation h).setSlot h none).postAll ps).grant := by
  have hfree : (((s.setRotation h).setSlot h none).postAll ps).lineFree = true := by
    rw [← hf]
    simp only [State.lineFree, State.postAll_inReset, State.postAll_line]
    rfl
  rw [State.grant_free hfree]
  refine State.choose_fuel ?_
  rw [State.candidates_refused]
  have hcard := Finset.card_erase_lt_of_mem (s := (s.setRotation h).candidates) (State.mem_candidates.2 hc)
  have hmax := Finset.card_le_univ (s.setRotation h).candidates
  have hfour : Fintype.card HostId = 4 := rfl
  omega

end

/-- Settles O27: the rotation's first candidate is checked, and a refusal leaves fewer candidates for the next choice. -/
theorem schedulerChoosesSideAndHost : Obligations.SchedulerChoosesSideAndHost := by
  refine fun s => ⟨State.grant_busy, fun hf => ?_⟩
  have hcand (g : HostId) : (¬ ∃ r, (s.port g).slot = some { req := r, granted := false }) ↔ (s.port g).candidate = false := by
    rw [← Port.candidate_iff, Bool.not_eq_true]
  dsimp only
  rw [← State.systemWaits_iff]
  simp only [hcand, ← State.nextHost_eq_none_iff]
  rw [State.grant_free hf]
  refine ⟨fun hsys hnone => ?_, fun hsys hside => ?_, fun h r hslot hside hfirst => ?_⟩
  · simp only [State.choose, hnone, if_neg hsys]
  · cases hh : s.nextHost with
    | none => simp only [State.choose, hh, hsys, if_true]
    | some h =>
      have hsystem : s.sched.side = .system := hside.resolve_left (by simp [hh])
      simp only [State.choose, hh, hsys, hsystem, beq_self_eq_true, Bool.and_self, if_true]
  · have hc : (s.port h).candidate = true := Port.candidate_iff.2 ⟨r, hslot⟩
    have hnext := State.nextHost_eq_some hc hfirst
    have hturn : (s.systemWaits && s.sched.side == .system) = false := by
      rcases hside with hsys | hside
      · simp [hsys]
      · simp [hside]
    have hchoose := State.choose_host 4 hnext hslot hturn
    intro a ha
    have hrefused {c : AccessCheck} {o : ReplyOutcome} {b : ReplyBody} (hcheck : s.checkAccess h r.handle = c)
        (hitems : refusedAccess h r.tag r.kind c = [.reply h r.tag (lineKindCode r.kind) o 0 b]) (hp : ∀ b, c ≠ .pass b) :
        State.choose 5 s = (((s.setRotation h).setSlot h none).post (.reply h r.tag (lineKindCode r.kind) o 0 b)).grant := by
      have hagain : State.choose 5 s = State.choose 4 (((s.setRotation h).setSlot h none).postAll (refusedAccess h r.tag r.kind c)) := by
        rw [hchoose, hcheck]
        cases c with
        | pass b => exact absurd rfl (hp b)
        | stale | held g | deferred => rfl
      rw [hagain, State.choose_refused hf hc, hitems]
      rfl
    refine ⟨fun hstale => ?_, fun hcur c hclaim hheld => ?_, fun hcur hfree => ⟨fun hdef => ?_, fun hdef => ?_⟩⟩
    · exact hrefused (State.checkAccess_stale ha hstale) rfl fun _ => nofun
    · exact hrefused (State.checkAccess_held ha hcur hclaim hheld) rfl fun _ => nofun
    · exact hrefused (State.checkAccess_deferred ha hcur hfree hdef) rfl fun _ => nofun
    · rw [hchoose, State.checkAccess_pass ha hcur hfree hdef]
      rfl

end Sys2Proof.Machine
end

section
/-! SUPPORT. The grants (R73 to R78) and the end of a gap (R29, R50): the record and the token that each puts on the line. -/

namespace Sys2Proof.Machine

set_option Elab.async false

open Sys2Proof

/-! ### The records of the grants (R74, R78, R81) -/

section
variable {s : State} {a : Addr}

theorem State.duePoll_eq_some_iff : s.duePoll = some a ↔
    (s.entry a).pollDue = true ∧ ∀ b, b < a → (s.entry b).pollDue = false := by
  simp [State.duePoll, find_allAddrs_eq_some_iff]

theorem State.duePoll_eq_none_iff : s.duePoll = none ↔ ∀ a, (s.entry a).pollDue = false := by
  simp [State.duePoll]

theorem State.sweepNext_eq_some (hs : s.sweep.active = true) (hc : s.sweep.cursor ≤ a) (ha : (s.entry a).eligible = true)
    (hfirst : ∀ b, s.sweep.cursor ≤ b → b < a → (s.entry b).eligible = false) : s.sweepNext = some a := by
  rw [State.sweepNext, if_pos hs]
  refine find_allAddrs_eq_some_iff.2 ⟨by simp [hc, ha], fun b hb => ?_⟩
  by_cases hcb : s.sweep.cursor ≤ b
  · simp [hfirst b hcb hb]
  · simp [hcb]

/-- A WAITING engine is granted before the poller and the sweep (R74). -/
theorem State.grantSystem_of_waiting (hw : s.engine.state = .waiting) :
    s.grantSystem = ((s.setSide .host).takeRate).startRound.sendRoundToken := if_pos hw

/-- A due poll is granted when the engine does not wait (R74). -/
theorem State.grantSystem_of_poll (hw : s.engine.state ≠ .waiting) (hp : s.duePoll = some a) : s.grantSystem =
    (((s.setSide .host).takeRate).setEntry a { s.entry a with
      deferred := (s.entry a).deferred.map fun d => { d with phase := .polling } }).beginAttempt
        (newTxn .status (addr6 a) 0 .poller 0 []) := by
  have hpoll : ((s.setSide .host).takeRate).duePoll = some a := hp
  have hstate : ((s.setSide .host).takeRate).engine.state ≠ .waiting := hw
  simp only [State.grantSystem, if_neg hstate, hpoll]
  rfl

/-- The pass's next entry is granted when neither the engine nor the poller waits (R74). -/
theorem State.grantSystem_of_sweep (hw : s.engine.state ≠ .waiting) (hp : s.duePoll = none) (hs : s.sweepNext = some a) :
    s.grantSystem = { ((s.setSide .host).takeRate) with sweep := { s.sweep with cursor := a } }.beginAttempt
      (newTxn .ping (addr6 a) 0 .sweep 0 []) := by
  have hpoll : ((s.setSide .host).takeRate).duePoll = none := hp
  have hsweep : ((s.setSide .host).takeRate).sweepNext = some a := hs
  have hstate : ((s.setSide .host).takeRate).engine.state ≠ .waiting := hw
  simp only [State.grantSystem, if_neg hstate, hpoll, hsweep]
  rfl

/-- The engine's next token on the line (R78, R82). -/
theorem State.sendRoundToken_of {t : Txn} (ht : s.engine.nextToken = some t) :
    s.sendRoundToken = (s.modEngine fun e => e.countAttempt s.config.retryLimit).beginAttempt t := by
  unfold State.sendRoundToken
  rw [ht]

end

/-- Settles O28: each grant by the case of the scheduler that makes it. -/
theorem grantFormsTheTransactionRecord : Obligations.GrantFormsTheTransactionRecord := by
  intro s begun
  have hnone {a : Addr} (h : ¬ ((s.entry a).bound = true ∧ (s.entry a).deferred = none)) : (s.entry a).eligible = false := by
    rwa [← Entry.eligible_iff, Bool.not_eq_true] at h
  have hidle {a : Addr} (h : ∀ d, (s.entry a).deferred = some d → d.phase ≠ .due) : (s.entry a).pollDue = false := by
    rw [← Bool.not_eq_true, Entry.pollDue_iff]
    exact fun ⟨d, hd, hp⟩ => h d hd hp
  refine ⟨fun h a r => ?_, fun hw => ⟨fun hp => ?_, fun hp => ?_⟩, fun hw a d hd hdue hfirst => ?_,
    fun hw hpoll hact a hc hb hdef hfirst => ?_⟩
  · obtain ⟨tag, kind, hd, index, len, data⟩ := r
    cases kind <;> rfl
  · rw [State.grantSystem_of_waiting hw, State.sendRoundToken_of (t := roundTxn .unpark 0 0)]
    · simp [State.startRound, State.modEngine, hp, Engine.countAttempt]
      rfl
    · simp [State.startRound, State.modEngine, hp, Engine.nextToken]
  · rw [State.grantSystem_of_waiting hw, State.sendRoundToken_of (t := roundTxn .seek 0 0)]
    · simp [State.startRound, State.modEngine, hp, Engine.countAttempt]
      rfl
    · simp [State.startRound, State.modEngine, hp, Engine.nextToken]
  · have hp : s.duePoll = some a := State.duePoll_eq_some_iff.2
      ⟨Entry.pollDue_iff.2 ⟨d, hd, hdue⟩, fun b hb => hidle (hfirst b hb)⟩
    rw [State.grantSystem_of_poll hw hp, hd]
    rfl
  · have hp : s.duePoll = none := State.duePoll_eq_none_iff.2 fun b => hidle (hpoll b)
    rw [State.grantSystem_of_sweep hw hp
      (State.sweepNext_eq_some hact hc (Entry.eligible_iff.2 ⟨hb, hdef⟩) fun b hcb hb => hnone (hfirst b hcb hb))]
    rfl

/-! ### The end of a gap (R29, R50) -/

/-- The gap's end leads on from IDLE, where no line reset is in progress (R29, R171). -/
theorem exec_lineGapEnd {s : State} {g : Nat} (hr : s.inReset = false) (hl : s.line.state = .idle) (hlr : s.line.reset = none)
    (hg : s.line.gap = some g) : exec .lineGapEnd s = .next (s.endGap g).gapEnd := by
  change execLineGapEnd s = _
  rw [execLineGapEnd, running_of hr, hg]
  exact if_pos ⟨hl, hlr⟩

theorem EngineState.inRound_iff {e : EngineState} :
    e.inRound = true ↔ e ∈ [.unparking, .seeking, .binding, .confirming, .parking] := by
  cases e <;> decide

section
variable {s : State} {g : Nat}

theorem State.gapEnd_of_record {t : Txn} (ht : s.line.record = some t) :
    s.gapEnd = s.beginAttempt { t with attempt := t.attempt + 1 } := by
  rw [State.gapEnd, ht]

theorem State.gapEnd_of_round (ht : s.line.record = none) (hr : s.engine.state.inRound = true) : s.gapEnd = s.roundGapEnd := by
  rw [State.gapEnd, ht]
  exact if_pos hr

theorem State.gapEnd_of_free (ht : s.line.record = none) (hr : s.engine.state.inRound = false) : s.gapEnd = s.grant := by
  rw [State.gapEnd, ht]
  exact if_neg (by simp [hr])

theorem State.roundGapEnd_of_ending {how : RoundEnd} (he : s.engine.ending = some how) : s.roundGapEnd = (s.endRound how).grant := by
  rw [State.roundGapEnd, he]

/-- An undecided round goes on with the token its engine names, SEEK behind UNPARK (R51). -/
theorem State.roundGapEnd_of_token {e : Engine} {t : Txn} (he : s.engine.ending = none)
    (heng : (if s.engine.state = .unparking then { s.engine with state := .seeking } else s.engine : Engine) = e)
    (ht : e.nextToken = some t) :
    s.roundGapEnd = ({ s with engine := e.countAttempt s.config.retryLimit } : State).beginAttempt t := by
  subst heng
  rw [State.roundGapEnd, he]
  exact State.sendRoundToken_of ht

theorem Engine.countAttempt_of_counted {e : Engine} (he : e.state = .binding ∨ e.state = .parking) (n : Nat) :
    e.countAttempt n = { e with
      attempt := e.attempt + 1
      attemptLimit := if e.attempt = 0 then n + 1 else e.attemptLimit } := if_pos he

theorem Engine.countAttempt_of_uncounted {e : Engine} (he : ¬ (e.state = .binding ∨ e.state = .parking)) (n : Nat) :
    e.countAttempt n = e := if_neg he

end

/-- Settles O29: a record goes on with its next attempt, which the gap kept, and without a round the line is free. -/
theorem gapEndBeginsTheNextAttemptOrFreesTheLine : Obligations.GapEndBeginsTheNextAttemptOrFreesTheLine := by
  intro s g hr hl hlr hg
  rw [exec_lineGapEnd hr hl hlr hg]
  refine ⟨fun t ht ho ha => ?_, fun ht he => ?_⟩
  · have hlimit : ({ t with attempt := t.attempt + 1 } : Txn).limitAtStart s.config.retryLimit = t.limit := by
      simp only [Txn.limitAtStart, if_neg ho, if_neg (show ¬ t.attempt + 1 = 1 by omega)]
    rw [State.gapEnd_of_record (s := s.endGap g) ht, State.beginAttempt, Txn.begun]
    rw [show (s.endGap g).config = s.config from rfl, hlimit]
    rfl
  · rw [State.gapEnd_of_free (s := s.endGap g) ht (by rwa [← Bool.not_eq_true, EngineState.inRound_iff])]
    rfl

/-- Settles O30: the decided end, or the token that the engine's state names. -/
theorem gapEndWithinARound : Obligations.GapEndWithinARound := by
  intro s g hr hl hlr hg ht he s1 sends counted
  have hgap : exec .lineGapEnd s = .next (s.endGap g).roundGapEnd := by
    rw [exec_lineGapEnd hr hl hlr hg, State.gapEnd_of_round (s := s.endGap g) ht (EngineState.inRound_iff.2 he)]
  refine ⟨fun how hhow => ?_, fun hend => ⟨fun hst => ?_, fun a u hst hcs hcd => ?_, fun a hst hcs => ?_, fun u hst hcd => ?_⟩⟩
  · rw [hgap, State.roundGapEnd_of_ending (s := s.endGap g) hhow]
    cases how <;> rfl
  all_goals refine hgap.trans ?_
  · rw [State.roundGapEnd_of_token (s := s.endGap g) (t := roundTxn .seek 0 0) hend (if_pos hst) rfl,
      Engine.countAttempt_of_uncounted (by simp)]
    rfl
  all_goals
    have hsame : (if (s.endGap g).engine.state = .unparking then { (s.endGap g).engine with state := .seeking }
      else (s.endGap g).engine) = s.engine := if_neg (show ¬ s.engine.state = .unparking by simp [hst])
  · rw [State.roundGapEnd_of_token (s := s.endGap g) hend hsame (t := roundTxn .assign 63 (assignArgument a u)),
      Engine.countAttempt_of_counted (.inl hst)]
    · rfl
    · simp [Engine.nextToken, hst, hcs, hcd]
  · rw [State.roundGapEnd_of_token (s := s.endGap g) hend hsame (t := roundTxn .ping (addr6 a) 0),
      Engine.countAttempt_of_uncounted (by simp [hst])]
    · rfl
    · simp [Engine.nextToken, hst, hcs]
  · rw [State.roundGapEnd_of_token (s := s.endGap g) hend hsame (t := roundTxn .park 63 (parkArgument u)),
      Engine.countAttempt_of_counted (.inr hst)]
    · rfl
    · simp [Engine.nextToken, hst, hcd]

end Sys2Proof.Machine
end

section
/-! SUPPORT. The events of an attempt on the line (R29, R36, R37, R79 to R86): the deferral of a start bit, the windows, the
judgements and the failures. -/

namespace Sys2Proof.Machine

set_option Elab.async false

open Sys2Proof

/-! ### The deferral of a start bit (R29) -/

/-- How many levels `b` in a row FDA has shown last. -/
def lastRun (b : Bool) (seen : List Bool) : Nat := (seen.reverse.takeWhile fun x => x == b).length

theorem lastRun_concat (b x : Bool) (seen : List Bool) : lastRun b (seen ++ [x]) = if x = b then lastRun b seen + 1 else 0 := by
  by_cases hx : x = b
  · simp [lastRun, hx]
  · simp [lastRun, hx]

theorem le_takeWhile_length_iff {b : Bool} {n : Nat} {l : List Bool} :
    n ≤ (l.takeWhile fun x => x == b).length ↔ ∃ later, l = List.replicate n b ++ later := by
  induction n generalizing l with
  | zero => simp
  | succ n ih =>
    cases l with
    | nil => simp
    | cons x l =>
      by_cases hx : x = b
      · simp [hx, List.replicate_succ, ih]
      · simp [hx, List.replicate_succ]

theorem le_lastRun_iff {b : Bool} {n : Nat} {seen : List Bool} :
    n ≤ lastRun b seen ↔ ∃ earlier, seen = earlier ++ List.replicate n b := by
  rw [lastRun, le_takeWhile_length_iff]
  constructor
  · rintro ⟨later, hl⟩
    exact ⟨later.reverse, by rw [← List.reverse_reverse seen, hl]; simp⟩
  · rintro ⟨earlier, rfl⟩
    exact ⟨earlier.reverse, by simp⟩

/-- The levels seen so far end a deferral: 2 released or 24 low bit times in a row (R29). -/
def DeferralOver (seen : List Bool) : Prop := (∃ p, seen = p ++ [true, true]) ∨ ∃ p, seen = p ++ List.replicate 24 false

theorem deferralOver_iff {seen : List Bool} : DeferralOver seen ↔ 2 ≤ lastRun true seen ∨ 24 ≤ lastRun false seen := by
  rw [le_lastRun_iff, le_lastRun_iff]
  rfl

/-- Behind the levels seen, a deferral ends with the last of the later ones when these are the first to end it (R29). -/
theorem deferralEnds_iff {later : List Bool} (seen : List Bool) :
    deferralEnds (lastRun false seen) (lastRun true seen) later = true ↔
      later ≠ [] ∧ DeferralOver (seen ++ later) ∧
        ∀ more x rest, later = more ++ x :: rest → more ≠ [] → ¬ DeferralOver (seen ++ more) := by
  induction later generalizing seen with
  | nil => simp [deferralEnds]
  | cons y later ih =>
    have hlow : (if y = true then 0 else lastRun false seen + 1) = lastRun false (seen ++ [y]) := by
      rw [lastRun_concat]; cases y <;> rfl
    have hhigh : (if y = true then lastRun true seen + 1 else 0) = lastRun true (seen ++ [y]) := (lastRun_concat ..).symm
    have hover : (Config.deferralHigh ≤ lastRun true (seen ++ [y]) ∨ Config.deferralLow ≤ lastRun false (seen ++ [y])) ↔
        DeferralOver (seen ++ [y]) := deferralOver_iff.symm
    have happend (l : List Bool) : seen ++ y :: l = (seen ++ [y]) ++ l := by simp
    rw [deferralEnds, hlow, hhigh]
    by_cases hy : DeferralOver (seen ++ [y])
    · rw [if_pos (hover.2 hy)]
      cases later with
      | nil =>
        refine ⟨fun _ => ⟨by simp, hy, fun more x rest hm hne => ?_⟩, fun _ => rfl⟩
        cases more with
        | nil => exact absurd rfl hne
        | cons z more => simp at hm
      | cons z later =>
        refine ⟨fun h => by simp at h, fun ⟨_, _, hfirst⟩ => absurd hy (hfirst [y] z later rfl (by simp))⟩
    · rw [if_neg (fun h => hy (hover.1 h)), ih (seen ++ [y]), happend later]
      constructor
      · rintro ⟨hne, hend, hfirst⟩
        refine ⟨by simp, hend, fun more x rest hm hmne => ?_⟩
        cases more with
        | nil => exact absurd rfl hmne
        | cons z more =>
          rw [List.cons_append, List.cons.injEq] at hm
          obtain ⟨rfl, hm⟩ := hm
          rw [happend more]
          by_cases hmore : more = []
          · rwa [hmore, List.append_nil]
          · exact hfirst more x rest hm hmore
      · rintro ⟨-, hend, hfirst⟩
        refine ⟨fun hnil => hy (by simpa [hnil] using hend), hend, fun more x rest hm hmne => ?_⟩
        rw [← happend more]
        exact hfirst (y :: more) x rest (by rw [hm, List.cons_append]) (by simp)

/-- A whole deferral is one that ends with its last level and with no earlier one (R29). -/
theorem deferralEnds_whole {levels : List Bool} : deferralEnds 0 0 levels = true ↔
    DeferralOver levels ∧ ∀ seen x later, levels = seen ++ x :: later → ¬ DeferralOver seen := by
  have hnil : ¬ DeferralOver [] := by simp [DeferralOver]
  refine (deferralEnds_iff []).trans ⟨fun ⟨_, hend, hfirst⟩ => ⟨hend, fun seen x later hl => ?_⟩, fun ⟨hend, hfirst⟩ =>
    ⟨fun hl => hnil (hl ▸ hend), hend, fun more x rest hm _ => hfirst more x rest hm⟩⟩
  by_cases hs : seen = []
  · exact hs ▸ hnil
  · exact hfirst seen x later hl hs

theorem StartBit.admits_iff {b : StartBit} {levels : List Bool} : b.admits levels = true ↔
    b = .untold ∨ ∃ low later, b = .deferred low ∧ levels = List.replicate low false ++ later := by
  cases b with
  | untold => simp [StartBit.admits]
  | sent => simp [StartBit.admits]
  | deferred low =>
    simp only [StartBit.admits, beq_iff_eq, reduceCtorEq, StartBit.deferred.injEq, exists_and_left, exists_eq_left', false_or]
    constructor
    · exact fun h => ⟨levels.drop low, by rw [← h, List.take_append_drop]⟩
    · rintro ⟨later, rfl⟩
      simp

theorem State.cutPending_eq_false_iff {s : State} :
    s.cutPending = false ↔ ∀ lr, s.line.reset = some lr → lr.phase ≠ .cutPending := by
  unfold State.cutPending
  cases s.line.reset <;> simp

theorem State.cutPending_of_none {s : State} (h : s.line.reset = none) : s.cutPending = false := by
  simp [State.cutPending_eq_false_iff, h]

/-- Every token but SEEK and UNPARK awaits an answer (R79). -/
theorem State.tokenEnd_of_awaiting {s : State} {t : Txn} (hs : t.kind ≠ .seek) (hu : t.kind ≠ .unpark) :
    s.tokenEnd t = s.toLineState .answerWait := by
  unfold State.tokenEnd
  split
  · next hk => exact absurd hk hu
  · next hk => exact absurd hk hs
  · rfl

/-- Settles O31: the deferral by its levels, the end bit by the record's kind. -/
theorem tokensLeadToTheirWindows : Obligations.TokensLeadToTheirWindows := by
  refine fun s hr => ⟨fun levels => ?_, fun low hlow => ?_, fun hl hstart hlr t ht => ?_⟩
  · dsimp only
    change (DeferralOver levels ∧ (∀ seen x later, levels = seen ++ x :: later → ¬ DeferralOver seen) → _) ∧
      (DeferralOver levels ∧ (∀ seen x later, levels = seen ++ x :: later → ¬ DeferralOver seen) → _) ∧
      (¬ (DeferralOver levels ∧ ∀ seen x later, levels = seen ++ x :: later → ¬ DeferralOver seen) → _)
    rw [← deferralEnds_whole]
    have hexec : exec (.startBitDeferralEnd levels) s = if !deferralEnds 0 0 levels then .refused .operandOutOfRange
        else if s.cutPending || s.line.state != .command || !s.line.start.admits levels then .refused .lineNotInThatState
        else .next ((s.setStart .sent).addBits levels.length) := running_of hr _
    have hsends : (s.cutPending || s.line.state != .command || !s.line.start.admits levels) = false ↔
        s.line.state = .command ∧ (s.line.start = .untold ∨ ∃ low later, s.line.start = .deferred low ∧
          levels = List.replicate low false ++ later) ∧ ∀ lr, s.line.reset = some lr → lr.phase ≠ .cutPending := by
      rw [← StartBit.admits_iff, ← State.cutPending_eq_false_iff]
      simp only [Bool.or_eq_false_iff, bne_eq_false_iff_eq, Bool.not_eq_false']
      tauto
    rw [hexec, ← hsends]
    refine ⟨fun hw hs => ?_, fun hw hs => ?_, fun hw => ?_⟩
    · rw [hw, hs]
      rfl
    · rw [hw, Bool.not_eq_false _ |>.mp hs]
      rfl
    · exact if_pos (by simpa using hw)
  · have hwaits : s.line.start.waits = true := by rw [hlow]; rfl
    change execCommandTokenEnd s = _
    rw [execCommandTokenEnd, onTxn, running_of hr]
    refine ite_eq_left_iff.2 fun _ => ?_
    cases s.line.record with
    | none => rfl
    | some t => exact if_pos hwaits
  · have hsent : s.line.start.waits = false := by
      cases hb : s.line.start with
      | untold => rfl
      | sent => rfl
      | deferred low => exact absurd hb (hstart low)
    have hexec : exec .commandTokenEnd s = .next ((s.addBits 38).tokenEnd t) := by
      change execCommandTokenEnd s = _
      rw [execCommandTokenEnd, onTxn_of hr (State.cutPending_of_none hlr) (by simp [hl]) ht, if_neg (by simp [hsent])]
      rfl
    rw [hexec]
    refine ⟨fun hk => ?_, fun hk => ?_, fun hk hk' => ?_⟩
    · simp only [State.tokenEnd, hk]
      rfl
    · simp only [State.tokenEnd, hk]
      rfl
    · rw [State.tokenEnd_of_awaiting hk hk']
      rfl

/-! ### Failed attempts (R83, R86) -/

section
variable {s : State} {t : Txn} {m : FailMark} {g : Nat}

theorem State.attemptFails_of_more (h : t.attempt < t.limit) :
    s.attemptFails t m g = s.toGap g (some { t with mark := t.mark.raise m }) := if_pos h

theorem State.attemptFails_of_last (h : t.limit ≤ t.attempt) :
    s.attemptFails t m g = s.finish { t with mark := t.mark.raise m } (t.mark.raise m).outcome g := if_neg (Nat.not_lt.2 h)

end

/-- An event of the line whose meaning in state `s` is a failed attempt with this mark, gap and bit times. -/
theorem failed_attempt {s : State} {t : Txn} {c : Instr} {bits gap : Nat} {m mark : FailMark} {o : TxnOutcome}
    (hc : exec c s = .next ((s.addBits bits).attemptFails t m gap)) (hm : t.mark.raise m = mark) (ho : mark.outcome = o) :
    let s1 := { s with line := { s.line with state := .idle, gap := some gap, start := .untold,
                                             bitTimes := s.line.bitTimes + bits } }
    let t1 := { t with mark := mark }
    (t.attempt < t.limit → exec c s = .next { s1 with line := { s1.line with record := some t1 } }) ∧
    (t.limit ≤ t.attempt → exec c s = .next (({ s1 with line := { s1.line with record := none } } : State).deliver t1 o)) := by
  subst hm ho
  refine ⟨fun h => ?_, fun h => ?_⟩
  · rw [hc, State.attemptFails_of_more h]
    rfl
  · rw [hc, State.attemptFails_of_last h]
    rfl

theorem bitTimeOk_of {k : Nat} (h1 : 1 ≤ k) (h2 : k ≤ 255) : bitTimeOk k = true := by simp [bitTimeOk, h1, h2]

section
variable {s : State} {t : Txn} (hr : s.inReset = false) (hlr : s.line.reset = none) (ht : s.line.record = some t)

include hr hlr ht

theorem exec_answerWindowExpiry (hl : s.line.state = .answerWait) (ho : t.owner ≠ .identification) :
    exec .answerWindowExpiry s = .next ((s.addBits t.window).attemptFails t .noAnswer 8) := by
  change execAnswerWindowExpiry s = _
  rw [execAnswerWindowExpiry, onTxn_of hr (State.cutPending_of_none hlr) (by simp [hl]) ht, if_neg (by simp [hl]),
    State.answerJudged, if_neg ho]
  rfl

theorem exec_answerTokenJudged {k : Nat} {bits : BitVec 34} {j : Judgement} (hl : s.line.state = .answerWait)
    (ho : t.owner ≠ .identification) (h1 : 1 ≤ k) (h2 : k ≤ 255) (hw : k ≤ t.window) (hj : judgeAnswer t bits = j) :
    exec (.answerTokenJudged k bits) s = .next ((s.addBits (k - 1 + 35)).accessAnswer t j) := by
  change execAnswerTokenJudged k bits s = _
  rw [execAnswerTokenJudged, onTxn_of hr (State.cutPending_of_none hlr) (by simp [hl]) ht, inWindow_of (bitTimeOk_of h1 h2) hw,
    State.answerJudged, if_neg ho, hj]
  rfl

theorem exec_burstWindowExpiry (hl : s.line.state = .burstIn) :
    exec .burstWindowExpiry s = .next ((s.addBits t.window).attemptFails t .burstFailed 8) := by
  change execBurstWindowExpiry s = _
  rw [execBurstWindowExpiry, onTxn_of hr (State.cutPending_of_none hlr) (by simp [hl]) ht]
  rfl

theorem exec_readBurstJudged {k : Nat} {data : List Byte} {crc : BitVec 16} {endBit : Bool} (hl : s.line.state = .burstIn)
    (h1 : 1 ≤ k) (h2 : k ≤ 255) (hw : k ≤ t.window) (hd : data.length = (t.argument.extractLsb' 0 6).toNat + 1) :
    exec (.readBurstJudged k data crc endBit) s =
      .next ((s.addBits (k - 1 + (8 * data.length + 18))).burstJudged t data (burstCorrect data crc endBit)) := by
  change execReadBurstJudged k data crc endBit s = _
  rw [execReadBurstJudged, onTxn_of hr (State.cutPending_of_none hlr) (by simp [hl]) ht, inWindow_of (bitTimeOk_of h1 h2) hw,
    if_neg (by simpa [argLength] using hd)]
  rfl

theorem exec_writeBurstEnd (hl : s.line.state = .burstOut) :
    exec .writeBurstEnd s = .next ((s.addBits (3 + (8 * argLength t.argument + 18))).toLineState .receiptWait) := by
  change execWriteBurstEnd s = _
  rw [execWriteBurstEnd, onTxn_of hr (State.cutPending_of_none hlr) (by simp [hl]) ht]
  rfl

theorem exec_answerWindowExpiry_of_receipt (hl : s.line.state = .receiptWait) :
    exec .answerWindowExpiry s = .next ((s.addBits t.window).receiptIs t .absent) := by
  change execAnswerWindowExpiry s = _
  rw [execAnswerWindowExpiry, onTxn_of hr (State.cutPending_of_none hlr) (by simp [hl]) ht, if_pos hl]

theorem exec_receiptJudged_of_none (hl : s.line.state = .receiptWait) :
    exec (.receiptJudged none) s = .next ((s.addBits t.window).receiptIs t .absent) := by
  change execReceiptJudged none s = _
  rw [execReceiptJudged, onTxn_of hr (State.cutPending_of_none hlr) (by simp [hl]) ht]

theorem exec_receiptJudged {k : Nat} {bits : BitVec 34} {j : Judgement} (hl : s.line.state = .receiptWait)
    (h1 : 1 ≤ k) (h2 : k ≤ 255) (hw : k ≤ t.window) (hj : judgeReceipt t bits = j) :
    exec (.receiptJudged (some (k, bits))) s = .next ((s.addBits (k - 1 + 35)).receiptIs t j) := by
  change execReceiptJudged (some (k, bits)) s = _
  rw [execReceiptJudged, onTxn_of hr (State.cutPending_of_none hlr) (by simp [hl]) ht]
  dsimp only
  rw [inWindow_of (bitTimeOk_of h1 h2) hw, hj]
  rfl

end

/-- Settles O32: each failure with the mark it raises. -/
theorem failedAttemptsAreRetriedThenDelivered : Obligations.FailedAttemptsAreRetriedThenDelivered := by
  intro s t hr hlr ht ho fails
  refine ⟨fun hl => ⟨fun hm => ?_, fun hm => ?_, fun hm => ?_, fun k bits h1 h2 hw hj => ⟨fun hm => ?_, fun hm => ?_⟩⟩,
    fun hl => ⟨?_, fun k data crc endBit h1 h2 hw hd hbad => ?_⟩⟩
  · exact failed_attempt (exec_answerWindowExpiry hr hlr ht hl ho) (by rcases hm with hm | hm <;> rw [hm] <;> rfl) rfl
  · exact failed_attempt (exec_answerWindowExpiry hr hlr ht hl ho) (by rw [hm]; rfl) rfl
  · exact failed_attempt (exec_answerWindowExpiry hr hlr ht hl ho) (by rw [hm]; rfl) rfl
  · refine failed_attempt (exec_answerTokenJudged hr hlr ht hl ho h1 h2 hw hj) ?_ rfl
    cases hmark : t.mark with
    | burstFailed => exact absurd hmark hm
    | clear | noAnswer | checkFailed => rfl
  · exact failed_attempt (exec_answerTokenJudged hr hlr ht hl ho h1 h2 hw hj) (by rw [hm]; rfl) rfl
  · refine failed_attempt (exec_burstWindowExpiry hr hlr ht hl) ?_ rfl
    cases t.mark <;> rfl
  · have hburst : burstCorrect data crc endBit = false := by simpa [burstCorrect] using hbad
    refine failed_attempt (m := .burstFailed) ?_ (by cases t.mark <;> rfl) rfl
    rw [exec_readBurstJudged hr hlr ht hl h1 h2 hw hd, hburst]
    rfl

/-- Settles O33: each correct token or burst with what follows it. -/
theorem answersBurstsAndReceiptsAreDelivered : Obligations.AnswersBurstsAndReceiptsAreDelivered := by
  intro s t hr hlr ht ho goes ends n
  refine ⟨fun k bits st v hl h1 h2 hw hj => ?_, fun k data crc hl h1 h2 hw hd hcrc => ?_, fun hl => ?_,
    fun hl => ⟨?_, ?_, fun k bits h1 h2 hw => ⟨fun hj => ?_, fun st v hj => ?_⟩⟩⟩
  · have hexec := exec_answerTokenJudged hr hlr ht hl ho h1 h2 hw hj
    refine ⟨fun hk hst => hexec.trans ?_, fun hk hst => hexec.trans ?_, fun hk => hexec.trans ?_⟩
    · simp only [State.accessAnswer, hk, hst]
      rfl
    · simp only [State.accessAnswer, hk, hst]
      rfl
    · have hends (u : State) : u.accessAnswer t (.correct st v) = u.finish t (.answered st v .command) 8 := by
        simp only [State.accessAnswer]
        split
        · next hread => exact absurd ⟨by simp [hread], rfl⟩ hk
        · next hwrite => exact absurd ⟨by simp [hwrite], rfl⟩ hk
        · rfl
      rw [hends]
      rfl
  · have hburst : burstCorrect data crc true = true := by simp [burstCorrect, hcrc]
    refine (exec_readBurstJudged hr hlr ht hl h1 h2 hw hd).trans ?_
    rw [hburst]
    rfl
  · exact exec_writeBurstEnd hr hlr ht hl
  · exact exec_answerWindowExpiry_of_receipt hr hlr ht hl
  · exact exec_receiptJudged_of_none hr hlr ht hl
  · exact exec_receiptJudged hr hlr ht hl h1 h2 hw hj
  · exact exec_receiptJudged hr hlr ht hl h1 h2 hw hj

end Sys2Proof.Machine
end

section
/-! SUPPORT. What an outcome does to the entry it reaches (R6 to R8, R11), and what the poller and the sweep make of it (R112 to R114,
R140, R142). -/

namespace Sys2Proof.Machine

set_option Elab.async false

open Sys2Proof

/-! ### Freeing with a record (R11 to R13) -/

section
variable {s : State} {a : Addr} {u : Uid}

theorem joinEntry_of_uid {e : Entry} (hu : e.uid = some u) (l : List Recall) : joinEntry l e a = joinRecall l ⟨u, a, e.gen⟩ := by
  rw [joinEntry, Entry.recall, hu]
  rfl

/-- A freed entry keeps its generation, and its record is the newest (R11). -/
theorem State.freeRecorded_eq (hu : (s.entry a).uid = some u) : s.freeRecorded a = ({ s with dir := { s.dir with
    entries := s.dir.entries.set a { gen := (s.entry a).gen }
    recalls := joinRecall s.dir.recalls ⟨u, a, (s.entry a).gen⟩ } } : State).wantIfParked := by
  rw [State.freeRecorded, joinEntry_of_uid hu]
  rfl

/-- With a quarantine of 0 an entry made LOST goes on to FREE (R8, R11). -/
theorem State.freeRecorded_lost (hu : (s.entry a).uid = some u) :
    ((s.setEntry a (s.lostEntry (s.entry a))).bumpSerial).freeRecorded a = ({ s with dir := { s.dir with
      entries := s.dir.entries.set a { gen := (s.entry a).gen }
      recalls := joinRecall s.dir.recalls ⟨u, a, (s.entry a).gen⟩
      serial := s.dir.serial + 1 } } : State).wantIfParked := by
  have hentry : ((s.setEntry a (s.lostEntry (s.entry a))).bumpSerial).entry a = s.lostEntry (s.entry a) :=
    State.entry_setEntry_same ..
  have huid : (((s.setEntry a (s.lostEntry (s.entry a))).bumpSerial).entry a).uid = some u := by rw [hentry]; exact hu
  rw [State.freeRecorded_eq huid, hentry]
  refine congrArg State.wantIfParked ?_
  simp only [State.bumpSerial, State.setEntry, State.lostEntry]
  rw [Vector.set_set]

theorem State.intoLost_of_quarantine (hq : s.config.quarantine ≠ 0) : s.intoLost a =
    ((s.setEntry a (s.lostEntry (s.entry a))).bumpSerial, [.notice (.lost a (s.entry a).gen ((s.entry a).uid.getD 0))]) := if_neg hq

theorem State.intoLost_of_zero (hq : s.config.quarantine = 0) : s.intoLost a =
    (((s.setEntry a (s.lostEntry (s.entry a))).bumpSerial).freeRecorded a,
      [.notice (.lost a (s.entry a).gen ((s.entry a).uid.getD 0)), .notice (.freed a true)]) := if_pos hq

/-! ### Outcomes at an entry (R6 to R8) -/

theorem State.applyOutcome_of_bound (hb : (s.entry a).bound = true) (o : TxnOutcome) (n : Nat) : s.applyOutcome a o n = match o with
    | .answered _ _ _ => (s.clearMiss a, [])
    | .noAnswer | .receiptMissing _ => s.countMiss a n
    | .checkFailed | .burstFailed | .aborted => (s, []) := if_pos hb

theorem State.applyOutcome_missed (hb : (s.entry a).bound = true) {o : TxnOutcome} (ho : o = .noAnswer ∨ ∃ j, o = .receiptMissing j)
    (n : Nat) : s.applyOutcome a o n = s.countMiss a n := by
  rw [State.applyOutcome_of_bound hb]
  rcases ho with rfl | ⟨j, rfl⟩ <;> rfl

end

/-- Settles O36: only a bound entry takes an outcome; a miss counts below the limit and moves the entry to LOST at it. -/
theorem outcomesCountMisses : Obligations.OutcomesCountMisses := by
  intro s a o n e
  refine ⟨fun hb => if_neg (by simp [hb, e]), fun hb => ⟨fun st v p ho => ?_, fun ho => ?_, fun ho => ⟨fun hm => ?_, fun hm => ?_⟩⟩⟩
  · subst ho
    rw [State.applyOutcome_of_bound hb]
    refine Prod.ext ?_ rfl
    change s.clearMiss a = _
    rw [State.clearMiss]
    by_cases hs : (s.entry a).state = .suspect
    · simp only [e, if_pos hs]
      rfl
    · simp only [e, if_neg hs]
      rfl
  · rw [State.applyOutcome_of_bound hb]
    rcases ho with rfl | rfl | rfl <;> rfl
  · rw [State.applyOutcome_missed hb ho, State.countMiss]
    dsimp only
    rw [if_pos hm]
    by_cases hs : (s.entry a).state = .present
    · simp only [e, if_pos hs]
      rfl
    · simp only [e, if_neg hs]
      rfl
  · have hlost : s.applyOutcome a o n = s.moveToLost a n := by
      rw [State.applyOutcome_missed hb ho]
      exact if_neg (Nat.not_lt.2 hm)
    have haborted : e.deferredAborted .moduleLost n = match e.deferred with
        | some { owner := some h, tag, polls, .. } =>
          [.reply h tag 0x0A .aborted (BitVec.ofNat 8 n ||| 0x80) (.deferredAborted .moduleLost polls)]
        | _ => [] := by
      unfold Entry.deferredAborted
      rcases e.deferred with _ | ⟨_ | h, tag, length, polls, phase⟩ <;> rfl
    dsimp only
    rw [hlost, State.moveToLost]
    refine ⟨fun hq => ?_, fun u hq hu => ?_⟩
    · rw [State.intoLost_of_quarantine hq]
      dsimp only
      rw [haborted]
      rfl
    · rw [State.intoLost_of_zero hq]
      dsimp only
      rw [haborted, State.freeRecorded_lost hu]
      refine Prod.ext rfl ?_
      simp only [List.append_assoc]
      rfl

/-! ### Delivery to the poller and to the sweep (R112 to R114, R140, R142) -/

section
variable {s : State} {t : Txn} {a : Addr}

theorem State.nextEligible_isNone_iff {c : Addr} :
    (s.nextEligible c).isNone = true ↔ ¬ ∃ b, c ≤ b ∧ (s.entry b).bound = true ∧ (s.entry b).deferred = none := by
  rw [Option.isNone_iff_eq_none, State.nextEligible, List.find?_eq_none]
  simp [Entry.eligible_iff]

theorem State.endIdlePass_of_none (ha : s.sweep.active = true) (hn : (s.nextEligible s.sweep.cursor).isNone = true) :
    s.endIdlePass = { s with sweep := { s.sweep with active := false } } := if_pos (by simp [ha, hn])

theorem State.endIdlePass_of_some (h : s.sweep.active = false ∨ ¬ (s.nextEligible s.sweep.cursor).isNone = true) :
    s.endIdlePass = s := if_neg (by rcases h with h | h <;> simp [h])

theorem State.deliverPoller_of_none (ha : t.entryAddr = some a) {o : TxnOutcome} {s1 : State} {ps : List Post}
    (hd : s.directoryTakes t o = (s1, ps)) (hn : (s1.entry a).deferred = none) :
    s.deliverPoller t o = s1.endIdlePass.postAll ps := by
  simp only [State.deliverPoller, hd, ha, hn]

theorem State.deliverPoller_of_some (ha : t.entryAddr = some a) {o : TxnOutcome} {s1 : State} {ps : List Post}
    (hd : s.directoryTakes t o = (s1, ps)) {d : Deferred} (hn : (s1.entry a).deferred = some d) :
    s.deliverPoller t o = (s1.setEntry a { s1.entry a with deferred := (s1.pollEnds d o t.attempt).1 }).endIdlePass.postAll
      ((s1.pollEnds d o t.attempt).2 ++ ps) := by
  simp only [State.deliverPoller, hd, ha, hn]

theorem State.deliverSweep_eq (ha : t.entryAddr = some a) {o : TxnOutcome} {s1 : State} {ps : List Post}
    (hd : s.directoryTakes t o = (s1, ps)) : s.deliverSweep t o = ((s1.advanceSweep a).endIdlePass).postAll ps := by
  simp only [State.deliverSweep, hd, ha]

theorem State.deliver_of_poller (ho : t.owner = .poller) (s : State) (o : TxnOutcome) : s.deliver t o = s.deliverPoller t o := by
  rw [State.deliver, ho]

theorem State.deliver_of_sweep (ho : t.owner = .sweep) (s : State) (o : TxnOutcome) : s.deliver t o = s.deliverSweep t o := by
  rw [State.deliver, ho]

theorem State.continuePoll_of_limit {d : Deferred} {n : Nat} (h : s.config.pollLimit ≤ d.polls) :
    s.continuePoll d n = (none, d.reply .timedOut n (.timedOut d.polls)) := if_pos h

theorem State.continuePoll_of_lt {d : Deferred} {n : Nat} (h : d.polls < s.config.pollLimit) :
    s.continuePoll d n = (some { d with phase := .timing (s.time + s.config.pollInterval) }, []) := if_neg (Nat.not_le.2 h)

end

/-- Settles O35: the record found behind the directory's part decides the poller's, the active flag the sweep's. -/
theorem pollerAndSweepReceiveTheOutcome : Obligations.PollerAndSweepReceiveTheOutcome := by
  refine ⟨fun s => ?_, fun s t a o s1 ps ha hout => ?_⟩
  · dsimp only
    rw [← State.nextEligible_isNone_iff]
    exact ⟨fun hact hn => State.endIdlePass_of_none hact hn, fun h => State.endIdlePass_of_some
      (h.imp_right fun hleft hn => State.nextEligible_isNone_iff.1 hn hleft)⟩
  · have haddr : t.entryAddr = some a := Txn.entryAddr_eq_some ha
    have htakes : s.directoryTakes t o = (s1, ps) := by rw [State.directoryTakes_eq ha, hout]
    refine ⟨fun ho => ⟨fun hn => ?_, fun d hd => ?_⟩, fun ho hact => ?_, fun ho hact => ?_⟩
    · rw [State.deliver_of_poller ho, State.deliverPoller_of_none haddr htakes hn]
    · intro item ended limited
      have hitem (ro : ReplyOutcome) (b : ReplyBody) : d.reply ro t.attempt b = item ro b := by
        unfold Deferred.reply
        cases hd : d.owner with
        | none => simp only [item, hd]
        | some g =>
          simp only [item, hd]
          rfl
      have hdeliver := (State.deliver_of_poller ho s o).trans (State.deliverPoller_of_some haddr htakes hd)
      have hended {ro : ReplyOutcome} {b : ReplyBody} (h : s1.pollEnds d o t.attempt = (none, d.reply ro t.attempt b)) :
          ended ro b := by
        change s.deliver t o = _
        rw [hdeliver, h, hitem]
      have hlimited {polls : Nat} (h : s1.pollEnds d o t.attempt = s1.continuePoll { d with polls := polls } t.attempt) :
          limited polls := by
        refine ⟨fun hl => hended (h.trans (State.continuePoll_of_limit hl)), fun hl => ?_⟩
        rw [hdeliver, h, State.continuePoll_of_lt (d := { d with polls := polls }) hl]
        rfl
      refine ⟨fun v p h => ?_, fun st v p h hst => ?_, fun v p h => ?_, fun h => ?_⟩
      · exact hended (by rw [h]; rfl)
      · exact hended (by rw [h]; rcases hst with rfl | rfl <;> rfl)
      · exact hlimited (by rw [h]; rfl)
      · exact hlimited (by rcases h with rfl | rfl <;> rfl)
    · rw [State.deliver_of_sweep ho, State.deliverSweep_eq haddr htakes]
      refine congrArg (fun u : State => u.endIdlePass.postAll ps) ?_
      rw [State.advanceSweep, if_pos hact]
      by_cases hlast : a.val + 1 < 62
      · simp only [dif_pos hlast]
      · simp only [dif_neg hlast]
    · have hadvance : s1.advanceSweep a = s1 := if_neg (by simp [hact])
      rw [State.deliver_of_sweep ho, State.deliverSweep_eq haddr htakes, hadvance, State.endIdlePass_of_some (.inl hact)]

end Sys2Proof.Machine
end

section
/-! SUPPORT. The contention result and the answers of a round (R3, R52 to R64). -/

namespace Sys2Proof.Machine

set_option Elab.async false

open Sys2Proof

/-! ### Wanted in a round (R49) -/

section
variable {s : State} {a : Addr} {u : Uid}

/-- Outside IDLE a trigger sets wanted and nothing else (R49). -/
theorem State.setWanted_of_ne_idle (h : s.engine.state ≠ .idle) : s.setWanted = s.modEngine fun e => { e with wanted := true } := by
  unfold State.setWanted State.modEngine
  rw [if_neg h]

theorem State.wantIfParked_of_ne_idle (h : s.engine.state ≠ .idle) :
    ∃ w, s.wantIfParked = s.modEngine fun e => { e with wanted := w } := by
  unfold State.wantIfParked
  split
  · exact ⟨true, State.setWanted_of_ne_idle h⟩
  · exact ⟨s.engine.wanted, rfl⟩

/-! ### The contention result (R52 to R55) -/

/-- The choice of an address changes the directory alone (R17). -/
theorem State.chooseAddress_rest (s : State) (u : Uid) : ∃ d, (s.chooseAddress u).1 = { s with dir := d } := by
  unfold State.chooseAddress
  split
  · split <;> exact ⟨_, rfl⟩
  · split
    · exact ⟨_, rfl⟩
    · split
      · exact ⟨_, rfl⟩
      · split <;> exact ⟨_, rfl⟩

theorem State.contentionResult_of_empty (s : State) : s.contentionResult (BitVec.allOnes 48) = (s.decideRound .plain, []) := if_pos rfl

theorem State.contentionResult_of_fouled (s : State) : s.contentionResult 0 = (s.decideRound .fouled, [.notice .lineFault]) :=
  (if_neg (show ¬ (0 : Uid) = Config.uidAllOnes by decide)).trans (if_pos rfl)

theorem State.contentionResult_of_candidate (h1 : u ≠ BitVec.allOnes 48) (h0 : u ≠ 0) : s.contentionResult u =
    match s.chooseAddress u with
    | (s1, ps, some (a, path)) =>
      (s1.modEngine fun e => { e with candidate := some u, chosen := some a, path := path, state := .binding }, ps)
    | (s1, ps, none) => (s1.modEngine fun e => { e with candidate := some u, chosen := none, state := .parking }, ps) :=
  (if_neg h1).trans (if_neg h0)

theorem State.contentionResult_of_chosen (h1 : u ≠ BitVec.allOnes 48) (h0 : u ≠ 0) {t : State} {ps : List Post} {path : BindPath}
    (hc : s.chooseAddress u = (t, ps, some (a, path))) : s.contentionResult u =
      (t.modEngine fun e => { e with candidate := some u, chosen := some a, path := path, state := .binding }, ps) := by
  rw [State.contentionResult_of_candidate h1 h0, hc]

theorem State.contentionResult_of_full (h1 : u ≠ BitVec.allOnes 48) (h0 : u ≠ 0) {t : State} {ps : List Post}
    (hc : s.chooseAddress u = (t, ps, none)) : s.contentionResult u =
      (t.modEngine fun e => { e with candidate := some u, chosen := none, state := .parking }, ps) := by
  rw [State.contentionResult_of_candidate h1 h0, hc]

end

/-- Settles O37: the result by its value, a candidate by the directory's choice. -/
theorem contentionResultLeadsTheRoundOn : Obligations.ContentionResultLeadsTheRoundOn := by
  intro s t u hr hlr hl ht s1
  have hexec : exec (.contentionEnd u) s = .next ((s1.contentionResult u).1.endIdlePass.postAll (s1.contentionResult u).2) := by
    change execContentionEnd u s = _
    rw [execContentionEnd, onTxn_of hr (State.cutPending_of_none hlr) (by simp [hl]) ht]
    rfl
  refine ⟨fun hu => ?_, fun hu => ?_, fun h1 h0 s2 ps => ⟨fun a path hc => ?_, fun hc => ?_⟩⟩
  · rw [hexec, hu, State.contentionResult_of_empty]
    rfl
  · rw [hexec, hu, State.contentionResult_of_fouled]
    rfl
  all_goals
    have hengine : s2.engine = s.engine := by
      obtain ⟨d, hd⟩ := s1.chooseAddress_rest u
      rw [hc] at hd
      rw [show s2 = { s1 with dir := d } from hd]
  · rw [hexec, State.contentionResult_of_chosen h1 h0 hc, State.modEngine, hengine]
  · rw [hexec, State.contentionResult_of_full h1 h0 hc, State.modEngine, hengine]

/-! ### The answers of a round (R56 to R64, R82) -/

/-- The answer to a round's token, absent or judged, begins the gap and is decided by the engine (R82). -/
theorem exec_roundAnswer {s : State} {t : Txn} {c : Instr} {bits : Nat} {j : Judgement} (hr : s.inReset = false)
    (hlr : s.line.reset = none) (hl : s.line.state = .answerWait) (ht : s.line.record = some t) (ho : t.owner = .identification)
    (hc : (c = .answerWindowExpiry ∧ bits = t.window ∧ j = .absent) ∨
      ∃ k b, 1 ≤ k ∧ k ≤ 255 ∧ k ≤ t.window ∧ c = .answerTokenJudged k b ∧ bits = k - 1 + 35 ∧ j = judgeAnswer t b) :
    exec c s = .next ((s.addBits bits).roundAnswer t j) := by
  rcases hc with ⟨rfl, rfl, rfl⟩ | ⟨k, b, h1, h2, hw, rfl, rfl, rfl⟩
  · change execAnswerWindowExpiry s = _
    rw [execAnswerWindowExpiry, onTxn_of hr (State.cutPending_of_none hlr) (by simp [hl]) ht, if_neg (by simp [hl]),
      State.answerJudged, if_pos ho]
  · change execAnswerTokenJudged k b s = _
    rw [execAnswerTokenJudged, onTxn_of hr (State.cutPending_of_none hlr) (by simp [hl]) ht, inWindow_of (bitTimeOk_of h1 h2) hw,
      State.answerJudged, if_pos ho]
    rfl

section
variable {s : State} {a : Addr} {u : Uid} {j : Judgement}

theorem State.engineDecides_of_assign (ha : s.engine.chosen = some a) : s.engineDecides .assign j = s.decideAssign a j := by
  simp only [State.engineDecides, ha]

theorem State.engineDecides_of_ping (ha : s.engine.chosen = some a) : s.engineDecides .ping j = s.decideConfirm a j := by
  simp only [State.engineDecides, ha]

theorem State.engineDecides_of_park : s.engineDecides .park j = s.decidePark j := rfl

/-- A completed bind in a round: the entry PRESENT at the next generation, the failure record cleared and wanted set (R3, R57). -/
theorem State.completeBind_eq (hst : s.engine.state ≠ .idle) (hu : (s.entry a).uid = some u) (cls : Option Byte) :
    s.completeBind a cls = ({ s with
        dir := { s.dir with
          entries := s.dir.entries.set a { s.entry a with state := .present, gen := (s.entry a).gen + 1, miss := 0, cls := cls }
          serial := s.dir.serial + 1 }
        engine := { s.engine with lastFailed := none, failures := 0, wanted := true, ending := some .plain } },
      [.notice (match s.engine.path with
        | .restart => .restarted a (s.entry a).gen ((s.entry a).gen + 1)
        | .newcomer => .arrived a ((s.entry a).gen + 1) u cls false
        | .returning => .arrived a ((s.entry a).gen + 1) u cls true)]) := by
  have huid : (s.entry a).uid.getD 0 = u := by rw [hu]; rfl
  refine Prod.ext ?_ ?_
  · rw [State.completeBind_fst, State.setWanted_of_ne_idle
      (s := (s.bindDone a s.engine.path cls).1.modEngine Engine.clearFailure) hst]
    rfl
  · subst huid
    change (s.bindDone a s.engine.path cls).2 = _
    cases s.engine.path <;> rfl

/-- The count of failures that the failure record gives the candidate `u` (R64). -/
def State.failureCount (s : State) (u : Uid) : Nat := if s.engine.lastFailed = some u then s.engine.failures + 1 else 1

theorem State.recordFailure_of_lt (hst : s.engine.state ≠ .idle) (hn : s.failureCount u < 3) : s.recordFailure u =
    (s.modEngine fun e => { e with lastFailed := some u, failures := s.failureCount u, wanted := true }, []) := by
  refine (if_pos hn).trans (Prod.ext ?_ rfl)
  exact State.setWanted_of_ne_idle hst

theorem State.recordFailure_of_le (hn : 3 ≤ s.failureCount u) : s.recordFailure u =
    (s.modEngine fun e => { e with lastFailed := none, failures := 0, wanted := false }, [.notice (.bindFailed u)]) :=
  if_neg (Nat.not_lt.2 hn)

/-- The failure record of a bind that was lost in a state with the same engine but for wanted (R59, R64). -/
theorem State.failBind_eq {t : State} {ps : List Post} {w : Bool} (hst : s.engine.state ≠ .idle) (hu : s.engine.candidate = some u)
    (hl : s.intoLost a = (t, ps)) (ht : t.engine = { s.engine with wanted := w }) :
    (s.failureCount u < 3 → s.failBind a = ({ t with engine := { s.engine with
      lastFailed := some u, failures := s.failureCount u, wanted := true, ending := some .plain } }, ps)) ∧
    (3 ≤ s.failureCount u → s.failBind a = ({ t with engine := { s.engine with
      lastFailed := none, failures := 0, wanted := false, ending := some .plain } }, ps ++ [.notice (.bindFailed u)])) := by
  have hcount : t.failureCount u = s.failureCount u := by rw [State.failureCount, ht]; rfl
  have hcand : t.candidateUid = u := by rw [State.candidateUid, ht]; simp [hu]
  have hidle : t.engine.state ≠ .idle := by rw [ht]; exact hst
  have hfail : s.failBind a = ((t.recordFailure u).1.decideRound .plain, ps ++ (t.recordFailure u).2) := by
    rw [State.failBind, State.bindLost, hl]
    dsimp only
    rw [hcand]
  refine ⟨fun hn => ?_, fun hn => ?_⟩
  · rw [hfail, State.recordFailure_of_lt hidle (hcount ▸ hn), hcount, List.append_nil]
    simp only [State.decideRound, State.modEngine, ht]
  · rw [hfail, State.recordFailure_of_le (hcount ▸ hn)]
    simp only [State.decideRound, State.modEngine, ht]

theorem State.pingConfirms_iff (hu : s.engine.candidate = some u) : s.pingConfirms j = true ↔ j = .correct .ok (u.extractLsb' 0 16) := by
  have hcand : s.candidateUid = u := by rw [State.candidateUid, hu]; rfl
  unfold State.pingConfirms
  rw [hcand]
  split
  · next v => simp [uidLow16]
  · next hj => simpa using fun h => hj _ h

end

/-- Settles O39: the answer to ASSIGN and to the confirming PING by its judgement. -/
theorem bindCompletesOrFails : Obligations.BindCompletesOrFails := by
  intro s t a u c bits j hr hlr hl ht ho ha hcand hu hc e s1 completed goesOn
  have hexec : exec c s = .next ((s1.engineDecides t.kind j).1.endIdlePass.postAll (s1.engineDecides t.kind j).2) :=
    exec_roundAnswer hr hlr hl ht ho hc
  have hcompleted (hst : s.engine.state ≠ .idle) {cls : Option Byte} (h : s1.engineDecides t.kind j = s1.completeBind a cls) :
      completed cls := by
    refine hexec.trans ?_
    rw [h, State.completeBind_eq (s := s1) hst hu]
    rfl
  have hgoesOn {st : EngineState} (h : s1.engineDecides t.kind j = (s1.modEngine fun e => { e with state := st }, [])) : goesOn st := by
    refine hexec.trans ?_
    rw [h]
    rfl
  refine ⟨fun hk hst => ?_, fun hk hst => ?_⟩
  · have hdec : s1.engineDecides t.kind j = s1.decideAssign a j := hk ▸ State.engineDecides_of_assign (s := s1) ha
    refine ⟨fun st v hj => hcompleted (by simp [hst]) ?_, fun hj => hgoesOn ?_⟩
    · rw [hdec, hj]
      rfl
    · rw [hdec]
      rcases hj with rfl | rfl <;> rfl
  · have hdec : s1.engineDecides t.kind j = s1.decideConfirm a j := hk ▸ State.engineDecides_of_ping (s := s1) ha
    have hconf : s1.pingConfirms j = true ↔ j = .correct .ok (u.extractLsb' 0 16) := State.pingConfirms_iff (s := s1) hcand
    have hidle : s.engine.state ≠ .idle := by simp [hst]
    refine ⟨fun hj => hcompleted hidle ?_, fun hj hmore => hgoesOn ?_, fun hj hlast => ?_⟩
    · rw [hdec]
      exact if_pos (hconf.2 hj)
    · rw [hdec]
      exact (if_neg fun h => hj (hconf.1 h)).trans (if_pos hmore)
    · have hfail : s1.engineDecides t.kind j = s1.failBind a := by
        rw [hdec]
        exact (if_neg fun h => hj (hconf.1 h)).trans (if_neg (Nat.not_lt.2 hlast))
      intro n lost fails
      have hfails {entry : Entry} {recalls : List Recall} {items : List Post} {w : Bool}
          (h : s1.intoLost a = ({ s1 with
            dir := { s.dir with entries := s.dir.entries.set a entry, recalls := recalls, serial := s.dir.serial + 1 }
            engine := { s.engine with wanted := w } }, items)) : fails entry recalls items := by
        obtain ⟨hlt, hle⟩ := State.failBind_eq (s := s1) hidle hcand h rfl
        refine ⟨fun hn => hexec.trans ?_, fun hn => hexec.trans ?_⟩
        · rw [hfail, hlt hn]
          rfl
        · rw [hfail, hle hn]
      have huid : (s1.entry a).uid.getD 0 = u := by rw [show (s1.entry a).uid = some u from hu]; rfl
      refine ⟨fun hq => hfails (w := s.engine.wanted) ?_, fun hq => ?_⟩
      · rw [State.intoLost_of_quarantine (s := s1) hq, huid]
        rfl
      · have hlost := State.intoLost_of_zero (s := s1) (a := a) hq
        rw [State.freeRecorded_lost (s := s1) hu, huid] at hlost
        obtain ⟨w, hw⟩ := State.wantIfParked_of_ne_idle (s := { s1 with dir := { s1.dir with
          entries := s1.dir.entries.set a { gen := (s1.entry a).gen }
          recalls := joinRecall s1.dir.recalls ⟨u, a, (s1.entry a).gen⟩
          serial := s1.dir.serial + 1 } }) hidle
        rw [hw] at hlost
        exact hfails (w := w) hlost

section
variable {s : State} {u : Uid}

/-- The survivor has accepted PARK in a round (R61, R63). -/
theorem State.parkAccepted_eq (hst : s.engine.state ≠ .idle) (hu : s.engine.candidate = some u) : s.parkAccepted =
    ({ s with
        dir := { s.dir with parked := s.dir.parked + 1 }
        engine := { s.engine with
          lastFailed := none, failures := 0, ending := some .plain
          wanted := if s.engine.openedWithUnpark then s.engine.wanted else true } }, [.notice (.parked u)]) := by
  have hcand : s.candidateUid = u := by rw [State.candidateUid, hu]; rfl
  rw [State.parkAccepted, hcand]
  refine Prod.ext ?_ rfl
  dsimp only
  rw [State.setWanted_of_ne_idle (s := (s.setParked (s.dir.parked + 1)).modEngine Engine.clearFailure) hst]
  by_cases ho : s.engine.openedWithUnpark = true
  · simp only [if_pos ho]
    rfl
  · simp only [if_neg ho]
    rfl

end

/-- Settles O40: the park by its judgement, the last failure by the failure record. -/
theorem parkSucceedsOrFails : Obligations.ParkSucceedsOrFails := by
  intro s t u c bits j hr hlr hl ht ho hk hst hcand hc s1 n
  have hidle : s.engine.state ≠ .idle := by simp [hst]
  have hexec : exec c s = .next ((s1.engineDecides t.kind j).1.endIdlePass.postAll (s1.engineDecides t.kind j).2) :=
    exec_roundAnswer hr hlr hl ht ho hc
  rw [hk, State.engineDecides_of_park] at hexec
  refine ⟨fun st v hj => ?_, fun hj => ⟨fun hmore => ?_, fun hlast => ?_⟩⟩
  · have hdec : s1.decidePark j = s1.parkAccepted := by rw [hj]; rfl
    rw [hexec, hdec, State.parkAccepted_eq (s := s1) hidle hcand]
    rfl
  · have hdec : s1.decidePark j = (s1, []) := by rcases hj with rfl | rfl <;> exact if_pos hmore
    rw [hexec, hdec]
    rfl
  · have huid : s1.candidateUid = u := by rw [State.candidateUid, show s1.engine.candidate = some u from hcand]; rfl
    have hdec : s1.decidePark j = ((s1.recordFailure u).1.decideRound .plain, (s1.recordFailure u).2) := by
      have hfail : s1.decidePark j = s1.failPark := by rcases hj with rfl | rfl <;> exact if_neg (Nat.not_lt.2 hlast)
      rw [hfail, State.failPark, huid]
    refine ⟨fun hn => ?_, fun hn => ?_⟩
    · rw [hexec, hdec, State.recordFailure_of_lt (s := s1) hidle hn]
      rfl
    · rw [hexec, hdec, State.recordFailure_of_le (s := s1) hn]
      rfl

end Sys2Proof.Machine
end

section
/-! SUPPORT. Join pulses (R30), the expiries of the millisecond timers (R175), and the line reset (R170 to R172). -/

namespace Sys2Proof.Machine

set_option Elab.async false

open Sys2Proof

/-! ### Join pulses (R30) -/

theorem Line.idleFitsPulse_iff {l : Line} : l.idleFitsPulse = true ↔ ∀ g, l.gap = some g → 10 ≤ g := by
  unfold Line.idleFitsPulse
  cases l.gap with
  | none => simp
  | some g => exact ⟨fun h _ hg => Option.some.inj hg ▸ of_decide_eq_true h, fun h => decide_eq_true (h g rfl)⟩

theorem State.recognisesJoin_iff {s : State} : s.recognisesJoin = true ↔ s.line.reset = none ∧
    ((s.line.state = .idle ∧ ∀ g, s.line.gap = some g → 10 ≤ g) ∨ (s.line.state = .command ∧ s.line.start = .untold)) := by
  simp only [State.recognisesJoin, Bool.and_eq_true, Bool.or_eq_true, beq_iff_eq, Option.isNone_iff_eq_none, Line.idleFitsPulse_iff]

/-- Settles O41: a recognised pulse is a wanted trigger and a grant, and tells of the start bit in COMMAND. -/
theorem joinPulseSetsWanted : Obligations.JoinPulseSetsWanted := by
  intro s hr
  have hexec : exec .joinPulseRecognised s = if s.recognisesJoin then .next s.reportJoin else .next s := running_of hr _
  dsimp only
  rw [← State.recognisesJoin_iff, hexec]
  refine ⟨fun hrec hl => ?_, fun hrec hl => ?_, fun hrec => if_neg hrec⟩
  · exact (if_pos hrec).trans (congrArg Host.Outcome.next (if_neg hl))
  · exact (if_pos hrec).trans (congrArg Host.Outcome.next (if_pos hl))

/-! ### The expiries (R11, R110, R128, R129, R138 to R140) -/

section
variable {s : State} {n : Nat} {act : State → State}

theorem expiry_of_early (hr : s.inReset = false) (hn : ¬ s.Reaches n) : expiry s (some n) act = .refused .timerNotDue := by
  rw [expiry, running_of hr]
  exact if_neg fun h => hn (State.expiresNext_iff.1 h)

theorem expiry_of_due (hr : s.inReset = false) (hn : s.Reaches n) :
    expiry s (some n) act = .next (act { s with time := n }) := by
  rw [expiry, running_of hr]
  exact if_pos (State.expiresNext_iff.2 hn)

/-- A timer that runs until step `n` expires exactly at that step (R175). -/
theorem expiry_of_timer {timer : Option Nat} (hr : s.inReset = false) (ht : timer = some n) :
    (¬ s.Reaches n → expiry s timer act = .refused .timerNotDue) ∧
    (s.Reaches n → expiry s timer act = .next (act { s with time := n })) := by
  subst ht
  exact ⟨expiry_of_early hr, expiry_of_due hr⟩

end

/-- Settles O42: the entry goes to FREE with its record, one serial increment, FREED and a grant. -/
theorem quarantineExpiryFreesTheEntry : Obligations.QuarantineExpiryFreesTheEntry := by
  intro s a n u hr hst hq hu
  have htimer : s.quarantineTimer a = some n := (if_pos hst).trans hq
  obtain ⟨hearly, hdue⟩ := expiry_of_timer (act := fun s => s.leaveQuarantine a) hr htimer
  refine ⟨hearly, fun hn => (hdue hn).trans ?_⟩
  rw [State.leaveQuarantine, State.freeRecorded_eq (s := { s with time := n }) hu, State.wantIfParked]
  by_cases hp : s.dir.parked = 0
  · rw [if_neg (by simpa using hp), if_pos hp]
    rfl
  · rw [if_pos hp, if_neg hp]
    rfl

/-- Settles O43: the item found is the host's only one on the record. -/
theorem waitExpiryAnswersTheWaiter : Obligations.WaitExpiryAnswersTheWaiter := by
  intro s a c front back w hr hc hw hother
  have hfront : ∀ x ∈ front, x.host ≠ w.host := fun x hx => hother x (List.mem_append_left _ hx)
  have hback : ∀ x ∈ back, x.host ≠ w.host := fun x hx => hother x (List.mem_append_right _ hx)
  have hfound : c.waitOf w.host = some w := by
    rw [Claim.waitOf, hw, List.find?_append, List.find?_eq_none.2 fun x hx => by simpa using hfront x hx]
    simp
  have hleft : (c.waits.filter fun x => x.host ≠ w.host) = front ++ back := by
    rw [hw, List.filter_append, List.filter_cons_of_neg (by simp), List.filter_eq_self.2 fun x hx => by simpa using hfront x hx,
      List.filter_eq_self.2 fun x hx => by simpa using hback x hx]
  have htimer : ((s.entry a).claim.bind fun c => c.waitOf w.host).map (fun w => w.expires) = some w.expires := by
    rw [hc, Option.bind_some, hfound]
    rfl
  obtain ⟨hearly, hdue⟩ := expiry_of_timer (act := fun s => s.endWait a w.host) hr htimer
  refine ⟨hearly, fun hn => (hdue hn).trans ?_⟩
  have hclaim : (({ s with time := w.expires } : State).entry a).claim = some c := hc
  simp only [State.endWait, hclaim, hfound, hleft]
  rfl

/-- Settles O44: each expiry at its timer's step, the new pass with the end of one that has nothing to ping. -/
theorem leasePollAndSweepTimersExpire : Obligations.LeasePollAndSweepTimersExpire := by
  refine fun s hr => ⟨fun a c hc => ?_, fun a d n hd hp => ?_, fun n ht => ?_⟩
  · have htimer : (s.entry a).claim.map (fun c => c.expires) = some c.expires := by rw [hc]; rfl
    obtain ⟨hearly, hdue⟩ := expiry_of_timer (act := fun s => s.endLease a) hr htimer
    refine ⟨hearly, fun hn t ps flag hover => (hdue hn).trans ?_⟩
    have hclaim : (({ s with time := c.expires } : State).entry a).claim = some c := hc
    simp only [State.endLease, hclaim, hover, Entry.holderRevoked]
    rfl
  · have htimer : (s.entry a).pollTimer = some n := by
      rw [Entry.pollTimer, hd]
      dsimp only
      rw [hp]
    obtain ⟨hearly, hdue⟩ := expiry_of_timer (act := fun s => s.pollDueAt a) hr htimer
    refine ⟨hearly, fun hn => (hdue hn).trans ?_⟩
    have hdeferred : (({ s with time := n } : State).entry a).deferred = some d := hd
    simp only [State.pollDueAt, hdeferred, Option.map_some]
    rfl
  · intro eligible started
    obtain ⟨hearly, hdue⟩ := expiry_of_timer (act := State.sweepDue) hr ht
    refine ⟨hearly, fun hn => ⟨fun hact => (hdue hn).trans ?_, fun hact hel => (hdue hn).trans ?_, fun hact hel => (hdue hn).trans ?_⟩⟩
    · rw [State.sweepDue, if_pos (show ({ s with time := n } : State).sweep.active = true from hact)]
    all_goals
      rw [State.sweepDue, if_neg (show ¬ ({ s with time := n } : State).sweep.active = true by simp [hact]), State.beginPass]
    · rw [State.endIdlePass_of_some]
      refine .inr fun h => ?_
      obtain ⟨a, hb, hd⟩ := hel
      exact State.nextEligible_isNone_iff.1 h ⟨a, Fin.zero_le a, hb, hd⟩
    · rw [State.endIdlePass_of_none]
      · rfl
      · exact State.nextEligible_isNone_iff.2 fun ⟨a, _, hb, hd⟩ => hel ⟨a, hb, hd⟩

/-! ### The line reset (R26, R32, R91, R170 to R172) -/

/-- The directory behind a line reset, with the newest 24 records (R26). -/
theorem State.resetDirectory_eq (s : State) (hlen : s.dir.recalls.length ≤ 24) : s.resetDirectory = { s with dir := { s.dir with
    entries := s.dir.entries.map fun e => if e.state = .free then { e with claim := none, deferred := none } else { gen := e.gen }
    recalls := newestRecalls (s.dir.recalls ++ s.busyAddrs.filterMap fun a => (s.entry a).recall a)
    parked := 0
    serial := if s.busyAddrs = [] then s.dir.serial else s.dir.serial + 1 } } := by
  rw [← s.resetDirectory_recalls hlen]
  by_cases hb : s.busyAddrs = []
  · have hempty : s.busyAddrs.isEmpty = true := by rw [hb]; rfl
    simp only [State.resetDirectory, hempty, if_true, if_pos hb]
    rfl
  · have hsome : s.busyAddrs.isEmpty = false := by simpa using hb
    simp only [State.resetDirectory, hsome, Bool.false_eq_true, if_false, if_neg hb]
    rfl

/-- Settles O50: joined, or begun in every block. -/
theorem lineResetBeginsOrJoins : Obligations.LineResetBeginsOrJoins := by
  intro h tag rest s hq hm
  have hexec : exec (.lineReset h) s = .next ((s.taken h rest).requestLineReset h tag) := by
    change execLineReset h s = _
    rw [execLineReset, takeRequest_of_atHead hq rfl, shaped_of_fits rfl, managing_of_manage (by simpa using hm)]
  refine ⟨fun lr hlr => ?_, fun hlr hlen => ?_⟩
  · have hjoin : (s.taken h rest).requestLineReset h tag = (s.taken h rest).joinLineReset lr h tag := by
      rw [State.requestLineReset, show (s.taken h rest).line.reset = some lr from hlr]
    rw [hexec, hjoin]
    rfl
  · have hbegin : (s.taken h rest).requestLineReset h tag = (s.taken h rest).beginLineReset (.requested h) [⟨h, tag, false⟩] := by
      rw [State.requestLineReset, show (s.taken h rest).line.reset = none from hlr]
    intro busy records s1
    have haborted (a : Addr) : (s.entry a).deferredAborted .lineReset 0 = match (s.entry a).deferred with
        | some { owner := some g, tag := w, polls, .. } => [.reply g w 0x0A .aborted 0x80 (.deferredAborted .lineReset polls)]
        | _ => [] := by
      unfold Entry.deferredAborted
      rcases (s.entry a).deferred with _ | ⟨_ | g, tag, length, polls, phase⟩ <;> rfl
    have hitems : (s.taken h rest).lineResetItems = allAddrs.flatMap (fun a => (s.entry a).waitersEnd .aborted) ++
        allAddrs.flatMap (fun a => (s.entry a).deferredAborted .lineReset 0) ++
        allAddrs.flatMap (fun a => (s.entry a).holderRevoked a .lineReset) := rfl
    have hbusy : (s.taken h rest).busyAddrs = busy := List.filter_congr fun a _ => by
      change ((s.entry a).state != .free) = _
      simp [bne, beq_eq_decide]
    rw [hexec, hbegin, State.beginLineReset_eq, hitems, State.resetBegun, State.resetDirectory_eq (s.taken h rest) hlen, hbusy]
    simp only [haborted]
    rfl

/-- Settles O51: each event of the line reset in the phase that it ends. -/
theorem lineResetRunsOnTheLine : Obligations.LineResetRunsOnTheLine := by
  intro s lr hr hlr
  refine ⟨fun hp => ?_, fun hp => ?_, fun hp n h8 h600 => ?_, fun hp => ?_⟩
  · change execResetHoldStart s = _
    rw [execResetHoldStart, running_of hr, hlr]
    refine (if_pos hp).trans ?_
    rw [State.cut_eq]
    cases s.line.record <;> rfl
  · change execResetHoldEnd s = _
    rw [execResetHoldEnd, running_of hr, hlr]
    exact if_pos hp
  · change execResetWaitEnd n s = _
    rw [execResetWaitEnd, running_of hr, if_neg (not_not.2 ⟨h8, h600⟩), hlr]
    exact if_pos hp
  · change execResetTokenSent s = _
    rw [execResetTokenSent, running_of hr, hlr]
    exact if_pos hp

end Sys2Proof.Machine
end

section
/-! SUPPORT. What of a state the laws of the round, the line and the pass read, and that these laws are kept by a change that leaves
it as it is (R48, R55, R70, R77, R111, R140). -/

namespace Sys2Proof.Machine

set_option Elab.async false

open Sys2Proof

/-! ### What the laws read -/

/-- The request that a port's slot holds granted (R77). -/
def Port.grantedRequest (p : Port) : Option LineRequest := p.slot.bind fun sl => if sl.granted then some sl.req else none

theorem Port.grantedRequest_eq_some {p : Port} {r : LineRequest} :
    p.grantedRequest = some r ↔ p.slot = some { req := r, granted := true } := by
  unfold Port.grantedRequest
  rcases p.slot with _ | ⟨q, _ | _⟩ <;> simp

theorem Port.grantedRequest_of_slot {p q : Port} (h : q.slot = p.slot) : q.grantedRequest = p.grantedRequest := by
  rw [Port.grantedRequest, h, Port.grantedRequest]

/-- What a transaction was granted for (R78). -/
def Txn.grant (t : Txn) : TxnKind × BitVec 6 × Owner × Tag := (t.kind, t.address, t.owner, t.tag)

/-- What is on the line: the controller's state, the gap, the transaction and the phase of a line reset. -/
def Line.traffic (l : Line) : LineState × Option Nat × Option (TxnKind × BitVec 6 × Owner × Tag) × Option ResetPhase :=
  (l.state, l.gap, l.record.map Txn.grant, l.reset.map fun lr => lr.phase)

/-- The engine is in the same round, its decision apart in what it is, or in none before and after. -/
def Engine.Alike (e f : Engine) : Prop :=
  (f.state = e.state ∧ f.chosen = e.chosen ∧ f.candidate = e.candidate ∧ (f.ending = none ↔ e.ending = none)) ∨
  (e.state.inRound = false ∧ f.state.inRound = false ∧ f.ending = none)

theorem Engine.Alike.refl (e : Engine) : e.Alike e := .inl ⟨rfl, rfl, rfl, .rfl⟩

theorem Engine.Alike.trans {e f g : Engine} (h : e.Alike f) (k : f.Alike g) : e.Alike g := by
  rcases h with ⟨hst, hch, hcd, hend⟩ | ⟨he, hf, hend⟩
  · rcases k with ⟨kst, kch, kcd, kend⟩ | ⟨kf, kg, kend⟩
    · exact .inl ⟨kst.trans hst, kch.trans hch, kcd.trans hcd, kend.trans hend⟩
    · exact .inr ⟨hst ▸ kf, kg, kend⟩
  · rcases k with ⟨kst, -, -, kend⟩ | ⟨-, kg, kend⟩
    · exact .inr ⟨he, kst ▸ hf, kend.2 hend⟩
    · exact .inr ⟨he, kg, kend⟩

/-- A change that leaves what the laws of the round and of the line read. -/
structure State.Kept (s t : State) : Prop where
  binding : ∀ a, (t.entry a).state = .binding ↔ (s.entry a).state = .binding
  uid : ∀ a, (s.entry a).state = .binding → (t.entry a).uid = (s.entry a).uid
  bound : ∀ a, (s.entry a).bound = true →
    (t.entry a).bound = true ∧ ((t.entry a).deferred = none ↔ (s.entry a).deferred = none)
  gen : ∀ a, (t.entry a).gen = (s.entry a).gen
  parked : t.dir.parked = s.dir.parked
  engine : s.engine.Alike t.engine
  traffic : t.line.traffic = s.line.traffic
  slots : ∀ h, (t.port h).grantedRequest = (s.port h).grantedRequest

theorem State.Kept.refl (s : State) : s.Kept s :=
  ⟨fun _ => .rfl, fun _ _ => rfl, fun _ h => ⟨h, .rfl⟩, fun _ => rfl, rfl, .refl _, rfl, fun _ => rfl⟩

theorem State.Kept.trans {s t u : State} (h : s.Kept t) (k : t.Kept u) : s.Kept u where
  binding a := (k.binding a).trans (h.binding a)
  uid a ha := (k.uid a ((h.binding a).2 ha)).trans (h.uid a ha)
  bound a ha :=
    let ⟨hb, hd⟩ := h.bound a ha
    let ⟨kb, kd⟩ := k.bound a hb
    ⟨kb, kd.trans hd⟩
  gen a := (k.gen a).trans (h.gen a)
  parked := k.parked.trans h.parked
  engine := h.engine.trans k.engine
  traffic := k.traffic.trans h.traffic
  slots g := (k.slots g).trans (h.slots g)

/-! ### The laws of the round and the line are kept -/

section
variable {s t : State}

/-- Outside a round no entry is in BINDING (R48). -/
theorem State.RoundLaw.no_binding (hl : s.RoundLaw) (he : s.engine.state.inRound = false) (a : Addr) :
    (s.entry a).state ≠ .binding := by
  intro hb
  rcases ((hl.1 a).1 hb).1 with h | h <;> rw [h] at he <;> cases he

theorem EngineState.inRound_of_binding {e : EngineState} (he : e.inRound = false) :
    e ≠ .binding ∧ e ≠ .confirming ∧ e ≠ .parking ∧ e ≠ .seeking ∧ e ≠ .unparking := by
  cases e <;> simp_all [EngineState.inRound]

theorem TxnKind.inRound_of_engineState {k : TxnKind} {e : EngineState} (h : k.engineState = some e) : e.inRound = true := by
  cases k <;> cases h <;> rfl

theorem State.RoundLaw.kept (hl : s.RoundLaw) (k : s.Kept t) : t.RoundLaw := by
  obtain ⟨hbind, hsome, hpark, huid⟩ := hl
  rcases k.engine with ⟨hst, hch, hcd, hend⟩ | ⟨he, hf, -⟩
  · refine ⟨fun a => ?_, ?_, ?_, fun a ha => ?_⟩
    · rw [k.binding, hbind, hst, hch, hend]
    · rw [hst, hch, hcd]
      exact hsome
    · rw [hst, hcd]
      exact hpark
    · rw [hcd, k.uid a ((k.binding a).1 ha)]
      exact huid a ((k.binding a).1 ha)
  · have hnone : ∀ a, (t.entry a).state ≠ .binding := fun a ha =>
      State.RoundLaw.no_binding ⟨hbind, hsome, hpark, huid⟩ he a ((k.binding a).1 ha)
    obtain ⟨hnb, hnc, hnp, -⟩ := EngineState.inRound_of_binding hf
    exact ⟨fun a => ⟨fun ha => absurd ha (hnone a), fun h => (h.1.elim hnb hnc).elim⟩, fun h => (h.elim hnb hnc).elim,
      fun h => (hnp h).elim, fun a ha => absurd ha (hnone a)⟩

theorem State.ParkedLaw.kept (hl : s.ParkedLaw) (k : s.Kept t) (hr : t.line.record = none ↔ s.line.record = none) : t.ParkedLaw := by
  obtain ⟨hone, hpast, hopen⟩ := hl
  rw [State.ParkedLaw, k.parked]
  rcases k.engine with ⟨hst, hch, hcd, hend⟩ | ⟨he, hf, -⟩
  · rw [hst, hend, hr]
    exact ⟨hone, hpast, hopen⟩
  · obtain ⟨hnb, hnc, hnp, hns, hnu⟩ := EngineState.inRound_of_binding hf
    exact ⟨hone, fun h => by simp_all, fun h => absurd h hnu⟩

theorem Line.traffic_eq {l m : Line} (h : m.traffic = l.traffic) : m.state = l.state ∧ m.gap = l.gap ∧
    m.record.map Txn.grant = l.record.map Txn.grant ∧ m.reset.map (fun lr => lr.phase) = l.reset.map fun lr => lr.phase := by
  simpa [Line.traffic] using h

theorem Line.record_none_iff {l m : Line} (h : m.traffic = l.traffic) : m.record = none ↔ l.record = none := by
  obtain ⟨-, -, hrec, -⟩ := Line.traffic_eq h
  rw [← Option.map_eq_none_iff (f := Txn.grant), hrec, Option.map_eq_none_iff]

theorem Line.reset_none_iff {l m : Line} (h : m.traffic = l.traffic) : m.reset = none ↔ l.reset = none := by
  obtain ⟨-, -, -, hreset⟩ := Line.traffic_eq h
  rw [← Option.map_eq_none_iff (f := fun lr : LineReset => lr.phase), hreset, Option.map_eq_none_iff]

/-- A transaction on the line was on it for the same grant. -/
theorem Line.record_of_traffic {l m : Line} (h : m.traffic = l.traffic) {x : Txn} (hx : m.record = some x) :
    ∃ y, l.record = some y ∧ y.kind = x.kind ∧ y.address = x.address ∧ y.owner = x.owner ∧ y.tag = x.tag := by
  obtain ⟨-, -, hrec, -⟩ := Line.traffic_eq h
  rw [hx, Option.map_some, eq_comm, Option.map_eq_some_iff] at hrec
  obtain ⟨y, hy, hg⟩ := hrec
  simp only [Txn.grant, Prod.mk.injEq] at hg
  exact ⟨y, hy, hg⟩

theorem Line.reset_of_traffic {l m : Line} (h : m.traffic = l.traffic) {lr : LineReset} (hx : m.reset = some lr) :
    ∃ q, l.reset = some q ∧ q.phase = lr.phase := by
  obtain ⟨-, -, -, hreset⟩ := Line.traffic_eq h
  rw [hx, Option.map_some, eq_comm, Option.map_eq_some_iff] at hreset
  exact hreset

theorem State.LineLaw.kept (hl : s.LineLaw) (k : s.Kept t) : t.LineLaw := by
  obtain ⟨hline, hslot, hgranted, hround, hgap, hreset, hending⟩ := hl
  have hstate := (Line.traffic_eq k.traffic).1
  have hgaps := (Line.traffic_eq k.traffic).2.1
  have hin : t.engine.state.inRound = s.engine.state.inRound := by
    rcases k.engine with ⟨hst, -⟩ | ⟨he, hf, -⟩
    · rw [hst]
    · rw [he, hf]
  have hend : t.engine.ending ≠ none → s.engine.ending ≠ none := by
    rcases k.engine with ⟨-, -, -, h⟩ | ⟨-, -, h⟩
    · exact fun ht hs => ht (h.2 hs)
    · exact fun ht => absurd h ht
  refine ⟨fun hr x hx => ?_, fun x h hx ho => ?_, fun h => ?_, fun hr hi => ?_, fun hg => ?_, fun lr hlr => ?_, fun he => ?_⟩
  · obtain ⟨y, hy, hk, haddr, ho, -⟩ := Line.record_of_traffic k.traffic hx
    obtain ⟨hstands, hident, haccess⟩ := hline ((Line.reset_none_iff k.traffic).1 hr) y hy
    have hentry : x.entryAddr = y.entryAddr := by rw [Txn.entryAddr, Txn.entryAddr, haddr]
    refine ⟨?_, fun hi => ?_, fun hi => ?_⟩
    · rw [hstate]
      unfold Txn.standsIn at hstands ⊢
      rwa [← hk, ← ho]
    · obtain ⟨hst, hnone⟩ := hident (ho.trans hi)
      rcases k.engine with ⟨kst, -, -, kend⟩ | ⟨he, -, -⟩
      · rw [← hk, kst]
        exact ⟨hst, kend.2 hnone⟩
      · rw [TxnKind.inRound_of_engineState hst] at he
        cases he
    · obtain ⟨hacc, hnot, a, ha, hb, hpoll, hdef⟩ := haccess fun h => hi (ho ▸ h)
      obtain ⟨kb, kd⟩ := k.bound a hb
      rw [← hk, ← ho, hin, hentry]
      exact ⟨hacc, hnot, a, ha, kb, hpoll, hdef.trans (not_congr kd).symm⟩
  · obtain ⟨y, hy, -, haddr, hyo, htag⟩ := Line.record_of_traffic k.traffic hx
    obtain ⟨r, hr, hrt, hra, hrg⟩ := hslot y h hy (hyo.trans ho)
    refine ⟨r, ?_, hrt.trans htag, haddr ▸ hra, fun a ha => ?_⟩
    · rw [← Port.grantedRequest_eq_some, k.slots, Port.grantedRequest_eq_some, hr]
    · rw [k.gen]
      exact hrg a (haddr ▸ ha)
  · have hrecord : (∃ x, t.line.record = some x ∧ x.owner = .host h) ↔ ∃ y, s.line.record = some y ∧ y.owner = .host h := by
      constructor
      · rintro ⟨x, hx, ho⟩
        obtain ⟨y, hy, -, -, hyo, -⟩ := Line.record_of_traffic k.traffic hx
        exact ⟨y, hy, hyo.trans ho⟩
      · rintro ⟨y, hy, ho⟩
        obtain ⟨x, hx, -, -, hxo, -⟩ := Line.record_of_traffic k.traffic.symm hy
        exact ⟨x, hx, hxo.trans ho⟩
    rw [hrecord, ← hgranted]
    simp only [← Port.grantedRequest_eq_some, k.slots]
  · rw [ne_eq, Line.record_none_iff k.traffic, hgaps]
    exact hround ((Line.reset_none_iff k.traffic).1 hr) (hin ▸ hi)
  · rw [hstate]
    exact hgap (hgaps ▸ hg)
  · obtain ⟨q, hq, hp⟩ := Line.reset_of_traffic k.traffic hlr
    obtain ⟨hnot, hafter⟩ := hreset q hq
    rw [hin, ← hp, hgaps, Line.record_none_iff k.traffic]
    exact ⟨hnot, hafter⟩
  · rw [hin]
    exact hending (hend he)

/-- The laws are kept where the tables' and the pass's are and nothing else that they read has changed. -/
theorem State.DirectoryLaw.kept (hl : s.DirectoryLaw) (k : s.Kept t) (ht : t.TableLaw) (hp : t.PassLaw) : t.DirectoryLaw where
  params := ht.params
  entries := ht.entries
  uids := ht.uids
  round := State.RoundLaw.kept hl.round k
  parked := State.ParkedLaw.kept hl.parked k (Line.record_none_iff k.traffic)
  line := State.LineLaw.kept hl.line k
  pass := hp

/-- A pass keeps its entry where the eligible entries stay so. -/
theorem State.PassLaw.kept (hl : s.PassLaw) (hb : ∀ a, (s.entry a).bound = true →
    (t.entry a).bound = true ∧ ((t.entry a).deferred = none ↔ (s.entry a).deferred = none))
    (ha : t.sweep.active = s.sweep.active) (hc : t.sweep.cursor = s.sweep.cursor) : t.PassLaw := by
  intro hact
  obtain ⟨a, hca, hbound, hdef⟩ := hl (ha ▸ hact)
  exact ⟨a, hc ▸ hca, (hb a hbound).1, (hb a hbound).2.2 hdef⟩

end

end Sys2Proof.Machine
end

section
/-! SUPPORT. Changes that the laws of the directory do not read: of ports beside the granted slots, of claims, of the time, of
wanted (R49, R119, R151). -/

namespace Sys2Proof.Machine

set_option Elab.async false

open Sys2Proof

/-- A change that keeps each of the laws of the directory. -/
structure State.Calm (s t : State) : Prop where
  kept : s.Kept t
  table : s.TableLaw → t.TableLaw
  pass : s.PassLaw → t.PassLaw

theorem State.Calm.refl (s : State) : s.Calm s := ⟨.refl s, id, id⟩

theorem State.Calm.trans {s t u : State} (h : s.Calm t) (k : t.Calm u) : s.Calm u :=
  ⟨h.kept.trans k.kept, k.table ∘ h.table, k.pass ∘ h.pass⟩

theorem State.Calm.law {s t : State} (k : s.Calm t) (hl : s.DirectoryLaw) : t.DirectoryLaw :=
  hl.kept k.kept (k.table hl.table) (k.pass hl.pass)

/-- Beside its claim record, and its deferred record's contents, the entry is the same. -/
structure Entry.Like (e f : Entry) : Prop where
  state : f.state = e.state
  uid : f.uid = e.uid
  cls : f.cls = e.cls
  gen : f.gen = e.gen
  miss : f.miss = e.miss
  quarantine : f.quarantine = e.quarantine
  claim : f.claim ≠ none → e.claim ≠ none ∨ e.bound = true
  deferred : f.deferred = none ↔ e.deferred = none

theorem Entry.Like.refl (e : Entry) : e.Like e := ⟨rfl, rfl, rfl, rfl, rfl, rfl, .inl, .rfl⟩

theorem Entry.Like.bound {e f : Entry} (k : e.Like f) : f.bound = e.bound := by
  unfold Entry.bound
  rw [k.state]

theorem Entry.Like.wf {e f : Entry} (k : e.Like f) {n : Nat} (h : e.Wf n) : f.Wf n := by
  obtain ⟨huid, hcls, hmiss, hsus, hquar, hclaim, hdeferred⟩ := h
  rw [Entry.Wf, k.state, k.uid, k.cls, k.miss, k.quarantine, k.bound, ne_eq f.deferred, k.deferred]
  exact ⟨huid, hcls, hmiss, hsus, hquar, fun h => (k.claim h).elim hclaim id, hdeferred⟩

section
variable {s t : State}

theorem State.TableLaw.like (hl : s.TableLaw) (hc : t.config = s.config) (he : ∀ a, (s.entry a).Like (t.entry a))
    (hr : t.dir.recalls = s.dir.recalls) : t.TableLaw where
  params := hc ▸ hl.params
  entries a := hc ▸ (he a).wf (hl.entries a)
  uids := by
    have huids := hl.uids
    simp only [State.UidLaw] at huids ⊢
    simpa only [hr, fun a => (he a).uid, fun a => (he a).state, fun a => (he a).gen] using huids

/-- A change of nothing that the laws read but the contents of claim and deferred records, wanted, and the slots not granted. -/
theorem State.Calm.of_like (he : ∀ a, (s.entry a).Like (t.entry a)) (hc : t.config = s.config := by rfl)
    (hr : t.dir.recalls = s.dir.recalls := by rfl) (hp : t.dir.parked = s.dir.parked := by rfl)
    (hg : s.engine.Alike t.engine := by exact .refl _) (hl : t.line.traffic = s.line.traffic := by rfl)
    (hs : ∀ h, (t.port h).grantedRequest = (s.port h).grantedRequest := by intro; rfl)
    (ha : t.sweep.active = s.sweep.active := by rfl) (hcur : t.sweep.cursor = s.sweep.cursor := by rfl) : s.Calm t where
  kept :=
    { binding := fun a => by rw [(he a).state]
      uid := fun a _ => (he a).uid
      bound := fun a hb => ⟨(he a).bound.trans hb, (he a).deferred⟩
      gen := fun a => (he a).gen
      parked := hp
      engine := hg
      traffic := hl
      slots := hs }
  table hl := hl.like hc he hr
  pass hl := hl.kept (fun a hb => ⟨(he a).bound.trans hb, (he a).deferred⟩) ha hcur

end

section
variable {s t : State} (k : s.Calm t)

include k

theorem State.Calm.setPort {h : HostId} {p : Port} (hp : p.grantedRequest = (t.port h).grantedRequest) : s.Calm (t.setPort h p) :=
  k.trans (.of_like (fun _ => .refl _) (hs := fun g => by
    rw [State.port_setPort]
    split
    · next hg => rw [hg, hp]
    · rfl))

theorem State.Calm.giveBack {h : HostId} {bs : List Byte} : s.Calm (t.giveBack h bs) := k.setPort rfl

theorem State.Calm.setHeld {h : HostId} {b : Bool} : s.Calm (t.setHeld h b) := k.setPort rfl

theorem State.Calm.taken {h : HostId} {rest : List Request} : s.Calm (t.taken h rest) := k.setPort rfl

theorem State.Calm.postAll {ps : List Post} : s.Calm (t.postAll ps) :=
  k.trans (.of_like (fun a => by rw [State.postAll_entry]; exact .refl _) (by simp) (by simp) (by simp) (by simpa using .refl _)
    (by simp) (fun h => Port.grantedRequest_of_slot (by simp)) (by simp) (by simp))

theorem State.Calm.post {p : Post} : s.Calm (t.post p) := k.postAll (ps := [p])

theorem State.Calm.answer {h : HostId} {r : Request} {o : ReplyOutcome} {b : ReplyBody} : s.Calm (t.answer h r o b) := k.post

theorem State.Calm.answerClaim {h : HostId} {r : Request} {o : ReplyOutcome} {b : ClaimBody} : s.Calm (t.answerClaim h r o b) := by
  have hfree : s.Calm (t.useFree r.body.length) := by
    unfold State.useFree
    split
    · exact k.trans (.of_like fun _ => .refl _)
    · exact k
  exact hfree.answer

theorem State.Calm.setEntry {a : Addr} {e : Entry} (he : (t.entry a).Like e) : s.Calm (t.setEntry a e) :=
  k.trans (.of_like fun b => by
    rw [State.entry_setEntry]
    split
    · next hb => rw [hb]; exact he
    · exact .refl _)

theorem State.Calm.bumpSerial : s.Calm t.bumpSerial := k.trans (.of_like fun _ => .refl _)

theorem State.Calm.addBits {n : Nat} : s.Calm (t.addBits n) := k.trans (.of_like fun _ => .refl _)

theorem State.Calm.setStart {b : StartBit} : s.Calm (t.setStart b) := k.trans (.of_like fun _ => .refl _)

theorem State.Calm.elapseTo {n : Nat} : s.Calm (t.elapseTo n) := k.trans (.of_like fun _ => .refl _)

end

section
variable {e : Engine} {s t : State}

/-- An engine outside a round stays there, or its round stays as it is. -/
theorem Engine.Alike.of_state {f : Engine} (hs : f.state = e.state ∨ (e.state.inRound = false ∧ f.state.inRound = false))
    (hch : f.chosen = e.chosen) (hcd : f.candidate = e.candidate) (hend : f.ending = none ↔ e.ending = none)
    (he : e.ending ≠ none → e.state.inRound = true) : e.Alike f := by
  rcases hs with hs | ⟨h1, h2⟩
  · exact .inl ⟨hs, hch, hcd, hend⟩
  · refine .inr ⟨h1, h2, hend.2 ?_⟩
    by_contra hne
    rw [he hne] at h1
    cases h1

/-- What wakes an IDLE engine (R49). -/
theorem State.setWanted_alike (he : s.engine.ending ≠ none → s.engine.state.inRound = true) : s.engine.Alike s.setWanted.engine := by
  refine .of_state ?_ rfl rfl .rfl he
  unfold State.setWanted
  dsimp only
  split
  · next h => exact .inr ⟨by rw [h]; rfl, rfl⟩
  · exact .inl rfl

/-- ENUMERATE wakes an IDLE and a HALTED engine (R66). -/
theorem State.enumerated_alike (he : s.engine.ending ≠ none → s.engine.state.inRound = true) : s.engine.Alike s.enumerated.engine := by
  refine .of_state ?_ rfl rfl ?_ he
  · unfold State.enumerated State.modEngine
    dsimp only
    split
    · next h => exact .inr ⟨by rcases h with h | h <;> rw [h] <;> rfl, rfl⟩
    · exact .inl rfl
  · unfold State.enumerated State.modEngine
    simp

theorem State.Calm.setWanted (k : s.Calm t) (he : t.engine.ending ≠ none → t.engine.state.inRound = true) : s.Calm t.setWanted :=
  k.trans (.of_like (fun _ => .refl _) (hg := State.setWanted_alike he))

theorem State.Calm.wantIfParked (k : s.Calm t) (he : t.engine.ending ≠ none → t.engine.state.inRound = true) :
    s.Calm t.wantIfParked := by
  unfold State.wantIfParked
  split
  · exact k.setWanted he
  · exact k

theorem State.Calm.enumerated (k : s.Calm t) (he : t.engine.ending ≠ none → t.engine.state.inRound = true) : s.Calm t.enumerated :=
  k.trans (.of_like (fun _ => .refl _) (hg := State.enumerated_alike he))

/-! ### Claims, port resets and exchanges (R119, R124, R135, R153 to R165) -/

theorem Entry.Like.setClaim {f : Entry} {c : Option Claim} (h : c ≠ none → f.claim ≠ none ∨ f.bound = true) :
    f.Like { f with claim := c } := ⟨rfl, rfl, rfl, rfl, rfl, rfl, h, .rfl⟩

theorem State.Calm.handOver (k : s.Calm t) {a : Addr} {ws : List WaitItem} (hb : (t.entry a).claim ≠ none) :
    s.Calm (t.handOver a ws).1 := k.setEntry (.setClaim fun _ => .inl hb)

theorem Entry.like_reset (s : State) (h : HostId) (a : Addr) : (s.entry a).Like ((s.portCleared h).entry a) := by
  rw [s.portCleared_entry h a]
  refine ⟨rfl, rfl, rfl, rfl, rfl, rfl, fun hne => .inl fun hn => hne ?_, by simp⟩
  change (s.claimAfterReset h a).1 = none
  rw [State.claimAfterReset_none hn]

/-- A port reset keeps its granted slot and drops the line's reply, not the transaction (R90, R163). -/
theorem State.portCleared_calm (s : State) (h : HostId) : s.Calm (s.portCleared h) := by
  have hline := s.portCleared_line h
  have hself := s.portCleared_port_self h
  have hne := fun g (hg : g ≠ h) => s.portCleared_port_ne h hg
  have hlike := Entry.like_reset s h
  obtain ⟨es, hs⟩ := s.portCleared_rest (h := h)
  refine .of_like hlike (by rw [hs]; rfl) (by rw [hs]; rfl) (by rw [hs]; rfl) (by rw [hs]; exact .refl _) ?_ (fun g => ?_)
    (by rw [hs]; rfl) (by rw [hs]; rfl)
  · rw [hline]
    simp only [Line.traffic, Option.map_map]
    refine Prod.ext rfl (Prod.ext rfl (Prod.ext ?_ rfl))
    refine congrArg (Option.map · s.line.record) (funext fun x => ?_)
    simp only [Function.comp]
    split <;> rfl
  · by_cases hg : g = h
    · rw [hg, hself, Port.afterReset, Port.grantedRequest, Port.grantedRequest]
      rcases (s.port h).slot with _ | ⟨r, _ | _⟩ <;> rfl
    · rw [hne g hg]

theorem State.resetPort_calm (s : State) (h : HostId) : s.Calm (s.resetPort h) := by
  rw [State.resetPort_eq]
  exact (s.portCleared_calm h).postAll

theorem Entry.like_dropWait (e : Entry) (h : HostId) (t : Tag) : e.Like (e.dropWait h t) :=
  ⟨rfl, rfl, rfl, rfl, rfl, rfl, fun h => .inl fun hn => h (by rw [Entry.dropWait, hn]; rfl), .rfl⟩

end

end Sys2Proof.Machine
end

section
/-! SUPPORT. Exchanges, takes, configurations and freed entries keep the laws of the directory (R9, R11, R24, R119, R151, R166). -/

namespace Sys2Proof.Machine

set_option Elab.async false

open Sys2Proof

/-! ### Exchanges (R152 to R165) -/

/-- The three cases in which a CANCEL removes something, and the others (R161). -/
inductive CancelEffect (s : State) (h : HostId) (tag : Tag) : State → Prop where
  | queued (hq : ∃ r ∈ (s.port h).queue, r.tag = tag) :
      CancelEffect s h tag (s.setPort h ({ s.port h with queue := (s.port h).queue.filter fun r => r.tag ≠ tag }.unowe tag))
  | slotted (r : LineRequest) (hs : (s.port h).slot = some { req := r, granted := false }) (ht : r.tag = tag) :
      CancelEffect s h tag (s.setPort h ({ s.port h with slot := none }.unowe tag))
  | waiting (hw : ∃ a, (s.entry a).hasWait h tag = true) :
      CancelEffect s h tag ((s.mapEntries fun e => e.dropWait h tag).setPort h ((s.port h).unowe tag))
  | nothing : CancelEffect s h tag s

theorem State.cancelled_effect (s : State) (h : HostId) (tag : Tag) : CancelEffect s h tag (s.cancelled h tag).1 := by
  unfold State.cancelled State.cancelCase
  by_cases hq : (s.port h).queue.any (fun r => r.tag == tag) = true
  · simp only [if_pos hq]
    exact .queued (by simpa using hq)
  · by_cases hs : (s.port h).slotHolds tag = true
    · simp only [if_neg hq, if_pos hs]
      unfold Port.slotHolds at hs
      cases hslot : (s.port h).slot with
      | none => simp [hslot] at hs
      | some sl =>
        obtain ⟨r, granted⟩ := sl
        simp only [hslot, Bool.and_eq_true, Bool.not_eq_true', beq_iff_eq] at hs
        obtain ⟨rfl, htag⟩ := hs
        exact .slotted r hslot htag
    · by_cases hw : allAddrs.any (fun a => (s.entry a).hasWait h tag) = true
      · simp only [if_neg hq, if_neg hs, if_pos hw]
        exact .waiting (by simpa using hw)
      · simp only [if_neg hq, if_neg hs, if_neg hw]
        split_ifs <;> exact .nothing

theorem CancelEffect.calm {s t : State} {h : HostId} {tag : Tag} (hx : CancelEffect s h tag t) : s.Calm t := by
  cases hx with
  | queued => exact (State.Calm.refl s).setPort rfl
  | slotted r hs =>
    refine (State.Calm.refl s).setPort ?_
    rw [Port.grantedRequest, Port.grantedRequest, hs]
    rfl
  | waiting =>
    have hdrop : s.Calm (s.mapEntries fun e => e.dropWait h tag) := .of_like fun a => by
      rw [State.entry_mapEntries]
      exact (s.entry a).like_dropWait h tag
    exact hdrop.setPort rfl
  | nothing => exact .refl s

theorem ExchangeEffect.calm {s t : State} {h : HostId} (hx : ExchangeEffect s h t) : s.Calm t := by
  cases hx with
  | nothing => exact .refl s
  | accepted => exact (State.Calm.refl s).setPort rfl
  | fetched i rest =>
    refine (State.Calm.refl s).setPort (Port.grantedRequest_of_slot ?_)
    unfold Port.fetched
    split <;> rfl
  | cancelled tag => exact (s.cancelled_effect h tag).calm
  | portReset => exact s.resetPort_calm h

/-! ### Entries that leave LOST (R11, R24) -/

section
variable {s : State} {a : Addr}

/-- A LOST entry made FREE is none that a round or the line reads. -/
theorem State.Kept.freed (hs : (s.entry a).state = .lost) (l : List Recall) :
    s.Kept ((s.setRecalls l).setEntry a (s.entry a).freed) where
  binding b := by
    rw [State.entry_setEntry]
    split
    · next hb => rw [hb, hs]; simp [Entry.freed]
    · rfl
  uid b hb := by
    rw [State.entry_setEntry]
    split
    · next he => rw [he, hs] at hb; cases hb
    · rfl
  bound b hb := by
    rw [State.entry_setEntry]
    split
    · next he => exact absurd hs (Entry.bound_ne_lost (he ▸ hb))
    · exact ⟨hb, .rfl⟩
  gen b := by
    rw [State.entry_setEntry]
    split
    · next he => rw [he]; rfl
    · rfl
  parked := rfl
  engine := .refl _
  traffic := rfl
  slots _ := rfl

/-- FORGET of a LOST entry frees it without a record (R24). -/
theorem State.freed_calm (hs : (s.entry a).state = .lost) : s.Calm (s.setEntry a (s.entry a).freed) where
  kept := .freed hs s.dir.recalls
  table hl := hl.freed a
  pass hl := hl.kept (State.Kept.freed hs s.dir.recalls).bound rfl rfl

/-- A LOST entry becomes FREE with a record (R11). -/
theorem State.freeRecorded_calm (hs : (s.entry a).state = .lost) (he : s.engine.ending ≠ none → s.engine.state.inRound = true) :
    s.Calm (s.freeRecorded a) := by
  have hfreed := State.Kept.freed hs (joinEntry s.dir.recalls (s.entry a) a)
  have hwant := (State.Calm.refl ((s.setRecalls (joinEntry s.dir.recalls (s.entry a) a)).setEntry a (s.entry a).freed)).wantIfParked he
  exact {
    kept := hfreed.trans hwant.kept
    table := fun hl => hl.freeRecorded (by rw [hs]; simp)
    pass := fun hl => hwant.pass (State.PassLaw.kept hl hfreed.bound rfl rfl) }

/-- The engine's part of the laws that a wanted trigger needs. -/
theorem State.DirectoryLaw.inRound_of_ending (hl : s.DirectoryLaw) : s.engine.ending ≠ none → s.engine.state.inRound = true := by
  obtain ⟨-, -, -, -, -, -, hending⟩ := hl.line
  exact hending

/-- FORGET, before its grant (R24). -/
theorem forgetRequest_calm (h : HostId) (r : Request) (he : s.engine.ending ≠ none → s.engine.state.inRound = true) :
    s.Calm (forgetRequest h r s) := by
  unfold forgetRequest
  dsimp only
  split
  · refine State.Calm.answer (State.Calm.bumpSerial ?_)
    exact {
      kept := ⟨fun _ => .rfl, fun _ _ => rfl, fun _ h => ⟨h, .rfl⟩, fun _ => rfl, rfl, .refl _, rfl, fun _ => rfl⟩
      table := fun hl => hl.sublist List.filter_sublist
      pass := id }
  · split
    · split
      · next hs => exact ((State.freed_calm hs).bumpSerial.wantIfParked he).answer.post
      · exact (State.Calm.refl s).answer
    · exact (State.Calm.refl s).answer

end

/-! ### Configurations (R9, R166, R167) -/

section
variable {s : State}

theorem Entry.suspect_of_overLimit {e : Entry} {v : Nat} (h : e.overLimit v = true) : e.state = .suspect := by
  simp only [Entry.overLimit, Bool.and_eq_true, beq_iff_eq] at h
  exact h.1

theorem Entry.lowerMiss_bound (e : Entry) {v : Nat} (hv : 1 ≤ v) : (e.lowerMiss v).bound = e.bound ∧
    ((e.lowerMiss v).state = .binding ↔ e.state = .binding) ∧ (e.lowerMiss v).deferred = e.deferred := by
  refine ⟨?_, ?_, ?_⟩
  · unfold Entry.bound
    rw [e.lowerMiss_state hv]
    split
    · next h =>
      have hs := Entry.suspect_of_overLimit h.2
      rw [hs]
      rfl
    · rfl
  · rw [e.lowerMiss_state hv]
    split
    · next h =>
      have hs := Entry.suspect_of_overLimit h.2
      simp [hs]
    · rfl
  · unfold Entry.lowerMiss
    split <;> rfl

theorem State.missLimit_calm {v : Nat} (hv : 1 ≤ v ∧ v ≤ 7) :
    s.Calm ((s.modConfig fun p => { p with missLimit := v }).applyMissLimit v) := by
  have hentry (a : Addr) : ((s.modConfig fun p => { p with missLimit := v }).applyMissLimit v).entry a = (s.entry a).lowerMiss v :=
    State.applyMissLimit_entry _ v a
  have hbound (a : Addr) := (s.entry a).lowerMiss_bound hv.1
  have hrest : ∃ d, (s.modConfig fun p => { p with missLimit := v }).applyMissLimit v =
      { s with config := { s.config with missLimit := v }, dir := d } ∧ d.parked = s.dir.parked := by
    unfold State.applyMissLimit
    dsimp only
    split <;> exact ⟨_, rfl, rfl⟩
  have hkept : s.Kept ((s.modConfig fun p => { p with missLimit := v }).applyMissLimit v) := by
    obtain ⟨d, hd, hp⟩ := hrest
    refine ⟨fun a => ?_, fun a _ => ?_, fun a hb => ?_, fun a => ?_, ?_, ?_, ?_, fun h => ?_⟩
    · rw [hentry]; exact (hbound a).2.1
    · rw [hentry]; exact ((s.entry a).lowerMiss_kept v).2.1
    · rw [hentry, (hbound a).1, (hbound a).2.2]; exact ⟨hb, .rfl⟩
    · rw [hentry]; exact ((s.entry a).lowerMiss_kept v).1
    · rw [hd]; exact hp
    · rw [hd]; exact .refl _
    · rw [hd]
    · rw [hd]; rfl
  refine ⟨hkept, fun hl => hl.missLimit hv, fun hl => hl.kept hkept.bound ?_ ?_⟩
  · obtain ⟨d, hd, -⟩ := hrest
    rw [hd]
  · obtain ⟨d, hd, -⟩ := hrest
    rw [hd]

theorem Configured.calm {t : State} (hx : Configured s t) : s.Calm t := by
  have hkept {c : Params} {w : Sweep} : s.Kept { s with config := c, sweep := w } :=
    ⟨fun _ => .rfl, fun _ _ => rfl, fun _ h => ⟨h, .rfl⟩, fun _ => rfl, rfl, .refl _, rfl, fun _ => rfl⟩
  cases hx with
  | store f hf hm =>
    refine ⟨hkept (w := s.sweep), fun hl => ⟨hf hl.params, fun a => ?_, hl.uids⟩, id⟩
    have hlimit : (s.modConfig f).config.missLimit = s.config.missLimit := hm
    rw [hlimit]
    exact hl.entries a
  | sweep v hv =>
    refine ⟨hkept, fun hl => ⟨?_, hl.entries, hl.uids⟩, id⟩
    obtain ⟨hwin, hretry, hmiss, -, hrest⟩ := hl.params
    exact ⟨hwin, hretry, hmiss, hv, hrest⟩
  | missLimit v hv => exact State.missLimit_calm hv

end

/-! ### Takes (R154) -/

/-- The takes that neither grant nor begin a line reset keep the laws; the others do up to the grant. -/
theorem TakeEffect.calm {s t : State} {h : HostId} {r : Request} (hx : TakeEffect s h r t)
    (he : s.engine.ending ≠ none → s.engine.state.inRound = true) :
    s.Calm t ∨ (∃ u, s.Calm u ∧ t = u.grant) ∨ t = s.requestLineReset h r.tag := by
  have hrefl := State.Calm.refl s
  cases hx with
  | replied o b => exact .inl hrefl.answer
  | repliedClaim o b => exact .inl hrefl.answerClaim
  | forgot => exact .inr (.inl ⟨_, forgetRequest_calm h r he, rfl⟩)
  | claimed a lease o b hb hn => exact .inl (hrefl.setEntry (.setClaim fun _ => .inr hb)).answerClaim
  | renewed a c lease o b hb hc => exact .inl (hrefl.setEntry (.setClaim fun _ => .inr hb)).answerClaim
  | waits a c hb hc hh hw => exact .inl (hrefl.setEntry (.setClaim fun _ => .inr hb))
  | handedOver a c o b ps hb hc hp => exact .inl (hrefl.handOver (by simp [hc])).answerClaim.postAll
  | slotted k hs =>
    refine .inr (.inl ⟨_, hrefl.setPort ?_, rfl⟩)
    rw [Port.grantedRequest, Port.grantedRequest, hs]
    rfl
  | enumerated o b => exact .inr (.inl ⟨_, (hrefl.enumerated he).answer, rfl⟩)
  | subscribed m o b => exact .inl (hrefl.setPort (h := h) (p := { s.port h with mask := m }) rfl).answer
  | lineReset => exact .inr (.inr rfl)

end Sys2Proof.Machine
end

section
/-! SUPPORT. The grants and the attempts they begin keep the laws of the directory (R70 to R82, R140). -/

namespace Sys2Proof.Machine

set_option Elab.async false

open Sys2Proof

/-! ### The attempts on the line (R79, R81) -/

@[simp] theorem addrNum_addr6 (a : Addr) : (addr6 a).toNat = addrNum a := by
  have := a.isLt
  simp only [addr6, addrNum, BitVec.toNat_ofNat]
  omega

theorem addrNum_injective {a b : Addr} (h : addrNum a = addrNum b) : a = b := Fin.ext (Nat.succ_injective h)

/-- What an access to the line addresses (R78, R111). -/
def State.Accesses (s : State) (x : Txn) : Prop :=
  x.kind.isAccess = true ∧ s.engine.state.inRound = false ∧ ∃ a, x.entryAddr = some a ∧ (s.entry a).bound = true ∧
    (x.kind = .status ↔ x.owner = .poller) ∧ (x.kind = .status ↔ (s.entry a).deferred ≠ none)

/-- What an attempt that begins on a line without a line reset needs of the state (R55, R70, R77, R111). -/
structure State.Ready (s : State) (x : Txn) : Prop where
  table : s.TableLaw
  round : s.RoundLaw
  parked : s.dir.parked ≤ 1
  past : (s.engine.state = .seeking ∨ s.engine.state = .binding ∨ s.engine.state = .confirming ∨ s.engine.state = .parking) →
    s.engine.ending = none → s.dir.parked = 0
  reset : s.line.reset = none
  token : x.owner = .identification → x.kind.engineState = some s.engine.state ∧ s.engine.ending = none
  access : x.owner ≠ .identification → s.Accesses x
  matching : ∀ h, x.owner = .host h → s.SlotMatches h x
  only : ∀ h r, (s.port h).slot = some { req := r, granted := true } → x.owner = .host h
  ending : s.engine.ending ≠ none → s.engine.state.inRound = true
  pass : s.PassLaw

theorem State.Ready.law {s : State} {x : Txn} (k : s.Ready x) : (s.beginAttempt x).DirectoryLaw where
  params := k.table.params
  entries := k.table.entries
  uids := k.table.uids
  round := k.round
  parked := ⟨k.parked, k.past, fun _ hn => by cases hn⟩
  line := by
    refine ⟨fun _ y hy => ?_, fun y h hy ho => ?_, fun h => ⟨fun ⟨r, hr⟩ => ⟨_, rfl, k.only h r hr⟩, fun ⟨y, hy, ho⟩ => ?_⟩,
      fun _ _ => .inl (by simp [State.beginAttempt]), fun hg => absurd rfl hg, fun lr hlr => ?_, k.ending⟩
    · obtain rfl := Option.some.inj hy
      exact ⟨rfl, k.token, k.access⟩
    · obtain rfl := Option.some.inj hy
      exact k.matching h ho
    · obtain rfl := Option.some.inj hy
      obtain ⟨r, hr, -⟩ := k.matching h ho
      exact ⟨r, hr⟩
    · have hnone : (s.beginAttempt x).line.reset = none := k.reset
      rw [hnone] at hlr
      cases hlr
  pass := k.pass

/-- The transaction on the line goes on with another attempt (R81). -/
theorem State.DirectoryLaw.nextAttempt {s : State} {x y : Txn} (hl : s.DirectoryLaw) (hr : s.line.reset = none)
    (hy : s.line.record = some y) (hx : x.grant = y.grant) : (s.beginAttempt x).DirectoryLaw := by
  simp only [Txn.grant, Prod.mk.injEq] at hx
  obtain ⟨hk, haddr, ho, htag⟩ := hx
  obtain ⟨hline, hslot, hgranted, -, -, -, hending⟩ := hl.line
  obtain ⟨-, hident, haccess⟩ := hline hr y hy
  have hentry : x.entryAddr = y.entryAddr := by rw [Txn.entryAddr, Txn.entryAddr, haddr]
  refine State.Ready.law ⟨hl.table, hl.round, hl.parked.1, hl.parked.2.1, hr, fun h => ?_, fun h => ?_, fun h hh => ?_, fun h r hs => ?_,
    hending, hl.pass⟩
  · rw [hk]
    exact hident (ho ▸ h)
  · rw [State.Accesses, hk, ho, hentry]
    exact haccess (ho ▸ h)
  · obtain ⟨r, hs, hrt, hra, hrg⟩ := hslot y h hy (ho ▸ hh)
    exact ⟨r, hs, hrt.trans htag.symm, haddr ▸ hra, haddr ▸ hrg⟩
  · obtain ⟨z, hz, hzo⟩ := (hgranted h).1 ⟨r, hs⟩
    rw [hy, Option.some.injEq] at hz
    rw [ho, hz]
    exact hzo

/-! ### A line with nothing on it -/

section
variable {s t : State}

/-- Between transactions and outside a round: what the laws then say, beside the tables (R70). -/
structure State.Quiet (s : State) : Prop where
  table : s.TableLaw
  binding : ∀ a, (s.entry a).state ≠ .binding
  engine : s.engine.state.inRound = false
  ending : s.engine.ending = none
  parked : s.dir.parked ≤ 1
  record : s.line.record = none
  slots : ∀ h r, (s.port h).slot ≠ some { req := r, granted := true }
  gap : s.line.gap ≠ none → s.line.state = .idle
  reset : ∀ lr, s.line.reset = some lr → lr.phase ≠ .cutPending → s.line.gap = none
  pass : s.PassLaw

theorem State.Quiet.round (k : s.Quiet) : s.RoundLaw := by
  obtain ⟨hnb, hnc, hnp, -⟩ := EngineState.inRound_of_binding k.engine
  exact ⟨fun a => ⟨fun h => absurd h (k.binding a), fun h => (h.1.elim hnb hnc).elim⟩, fun h => (h.elim hnb hnc).elim,
    fun h => (hnp h).elim, fun a h => absurd h (k.binding a)⟩

theorem State.Quiet.law (k : s.Quiet) : s.DirectoryLaw where
  params := k.table.params
  entries := k.table.entries
  uids := k.table.uids
  round := k.round
  parked := by
    obtain ⟨hnb, hnc, hnp, hns, hnu⟩ := EngineState.inRound_of_binding k.engine
    exact ⟨k.parked, fun h => by simp_all, fun h => absurd h hnu⟩
  line := by
    have hrecord := k.record
    refine ⟨fun _ x hx => by simp [hrecord] at hx, fun x h hx => by simp [hrecord] at hx,
      fun h => ⟨fun ⟨r, hr⟩ => absurd hr (k.slots h r), fun ⟨x, hx, _⟩ => by simp [hrecord] at hx⟩,
      fun _ hi => absurd hi (by simp [k.engine]), k.gap, fun lr hlr => ⟨k.engine, fun hp => ⟨k.reset lr hlr hp, hrecord⟩⟩,
      fun he => absurd k.ending he⟩
  pass := k.pass

theorem State.DirectoryLaw.quiet (hl : s.DirectoryLaw) (hr : s.line.record = none) (he : s.engine.state.inRound = false) : s.Quiet := by
  obtain ⟨-, -, hgranted, -, hgap, hreset, hending⟩ := hl.line
  refine ⟨hl.table, State.RoundLaw.no_binding hl.round he, he, ?_, hl.parked.1, hr, fun h r hs => ?_, hgap,
    fun lr hlr hp => ((hreset lr hlr).2 hp).1, hl.pass⟩
  · by_contra hne
    rw [hending hne] at he
    cases he
  · obtain ⟨x, hx, -⟩ := (hgranted h).1 ⟨r, hs⟩
    rw [hr] at hx
    cases hx

theorem State.Quiet.calm (k : s.Quiet) (h : s.Calm t) : t.Quiet := by
  refine (h.law k.law).quiet ((Line.record_none_iff h.kept.traffic).2 k.record) ?_
  rcases h.kept.engine with ⟨hst, -⟩ | ⟨-, hf, -⟩
  · rw [hst]
    exact k.engine
  · exact hf

theorem State.lineFree_iff : s.lineFree = true ↔ s.inReset = false ∧ s.line.state = .idle ∧ s.line.gap = none ∧
    s.line.record = none ∧ s.line.reset = none := by
  simp [State.lineFree, and_assoc]

/-- On a free line nothing is granted and no round is open (R70). -/
theorem State.DirectoryLaw.quiet_of_free (hl : s.DirectoryLaw) (hf : s.lineFree = true) : s.Quiet := by
  obtain ⟨-, -, hgap, hrec, hreset⟩ := State.lineFree_iff.1 hf
  refine hl.quiet hrec ?_
  obtain ⟨-, -, -, hround, -⟩ := hl.line
  by_contra he
  rcases hround hreset (by simpa using he) with h | h
  · exact h hrec
  · exact h hgap

/-! ### The grants of the system side (R74, R78) -/

/-- The scheduler's pointers and the line rate are read by no law. -/
theorem State.Calm.setSched (k : s.Calm t) {c : Scheduler} : s.Calm { t with sched := c } := k.trans (.of_like fun _ => .refl _)

theorem State.Calm.takeRate (k : s.Calm t) : s.Calm t.takeRate := k.trans (.of_like fun _ => .refl _)

theorem State.Calm.setSide (k : s.Calm t) {d : Side} : s.Calm (t.setSide d) := k.setSched

theorem State.Calm.setRotation (k : s.Calm t) {h : HostId} : s.Calm (t.setRotation h) := k.setSched

/-- What a quiet state gives to an attempt of an access. -/
theorem State.Quiet.ready {x : Txn} (k : s.Quiet) (hr : s.line.reset = none) (hi : x.owner ≠ .identification) (hh : ∀ h, x.owner ≠ .host h)
    (ha : s.Accesses x) : s.Ready x where
  table := k.table
  round := k.round
  parked := k.parked
  past := k.law.parked.2.1
  reset := hr
  token := fun h => absurd h hi
  access := fun _ => ha
  matching := fun h ho => absurd ho (hh h)
  only := fun h r hs => absurd hs (k.slots h r)
  ending := fun h => absurd k.ending h
  pass := k.pass

/-- The grant of a round (R50, R51). -/
theorem State.Quiet.grantRound (k : s.Quiet) (hr : s.line.reset = none) : s.startRound.sendRoundToken.DirectoryLaw := by
  have hround {x : Txn} {e : Engine} (he : e.state = .unparking ∨ e.state = .seeking) (hnone : e.ending = none)
      (hpark : e.state = .seeking → s.dir.parked = 0) (hx : x.owner = .identification) (hk : x.kind.engineState = some e.state) :
      ({ s with engine := e } : State).Ready x := by
    refine ⟨k.table.congr, ⟨fun a => ⟨fun h => absurd h (k.binding a), fun h => ?_⟩, fun h => ?_, fun h => ?_, fun a h => absurd h (k.binding a)⟩,
      k.parked, fun h _ => ?_, hr, fun _ => ⟨hk, hnone⟩, fun h => absurd hx h, fun h ho => ?_, fun h r hs => absurd hs (k.slots h r),
      fun h => absurd hnone h, k.pass⟩
    · rcases he with he | he <;> simp [he] at h
    · rcases he with he | he <;> simp [he] at h
    · rcases he with he | he <;> simp [he] at h
    · rcases he with he | he
      · simp [he] at h
      · exact hpark he
    · rw [hx] at ho
      cases ho
  by_cases hp : s.dir.parked = 0
  · have htoken : s.startRound.engine.nextToken = some (roundTxn .seek 0 0) := by
      simp [State.startRound, State.modEngine, Engine.nextToken, hp]
    rw [State.sendRoundToken_of htoken]
    refine (hround (.inr ?_) ?_ (fun _ => hp) rfl ?_).law <;> simp [State.startRound, State.modEngine, Engine.countAttempt, hp] <;> rfl
  · have htoken : s.startRound.engine.nextToken = some (roundTxn .unpark 0 0) := by
      simp [State.startRound, State.modEngine, Engine.nextToken, hp]
    rw [State.sendRoundToken_of htoken]
    refine (hround (.inl ?_) ?_ (fun h => ?_) rfl ?_).law <;> simp [State.startRound, State.modEngine, Engine.countAttempt, hp] at * <;> rfl

theorem State.sweepNext_eligible {a : Addr} (ha : s.sweepNext = some a) :
    s.sweep.active = true ∧ (s.entry a).bound = true ∧ (s.entry a).deferred = none := by
  unfold State.sweepNext at ha
  split at ha
  · next hs =>
    have hfound := List.find?_some (p := fun a => decide (s.sweep.cursor ≤ a) && (s.entry a).eligible) ha
    simp only [Bool.and_eq_true, Entry.eligible_iff] at hfound
    exact ⟨hs, hfound.2⟩
  · cases ha

/-- A grant to the system side (R74). -/
theorem State.Quiet.grantSystem (k : s.Quiet) (hr : s.line.reset = none) : s.grantSystem.DirectoryLaw := by
  have hstart : s.Calm (s.setSide .host).takeRate := (State.Calm.refl s).setSide.takeRate
  have hquiet := k.calm hstart
  by_cases hw : s.engine.state = .waiting
  · rw [State.grantSystem_of_waiting hw]
    exact hquiet.grantRound hr
  · cases hp : s.duePoll with
    | some a =>
      rw [State.grantSystem_of_poll hw hp]
      obtain ⟨d, hd, -⟩ := Entry.pollDue_iff.1 (State.duePoll_eq_some_iff.1 hp).1
      have hb : (s.entry a).bound = true := (k.table.entries a).2.2.2.2.2.2 (by simp [hd])
      have hlike : (s.entry a).Like { s.entry a with deferred := (s.entry a).deferred.map fun d => { d with phase := .polling } } :=
        ⟨rfl, rfl, rfl, rfl, rfl, rfl, .inl, by simp⟩
      refine ((k.calm (hstart.setEntry hlike)).ready hr (by simp [newTxn]) (by simp [newTxn])
        ⟨rfl, k.engine, a, ?_, ?_, ?_, ?_⟩).law
      · exact Txn.entryAddr_eq_some (addrNum_addr6 a).symm
      · rw [State.entry_setEntry_same]
        exact hb
      · simp [newTxn]
      · simp [newTxn, State.entry_setEntry_same, hd]
    | none =>
      cases hs : s.sweepNext with
      | some a =>
        rw [State.grantSystem_of_sweep hw hp hs]
        obtain ⟨-, hb, hd⟩ := State.sweepNext_eligible hs
        have hmoved : ({ (s.setSide .host).takeRate with sweep := { s.sweep with cursor := a } } : State).Quiet :=
          ⟨hquiet.table.congr, hquiet.binding, hquiet.engine, hquiet.ending, hquiet.parked, hquiet.record, hquiet.slots,
            hquiet.gap, hquiet.reset, fun _ => ⟨a, Fin.le_refl a, hb, hd⟩⟩
        refine (hmoved.ready hr (by simp [newTxn]) (by simp [newTxn]) ⟨rfl, k.engine, a, ?_, hb, ?_, ?_⟩).law
        · exact Txn.entryAddr_eq_some (addrNum_addr6 a).symm
        · simp [newTxn]
        · exact ⟨nofun, fun h => absurd hd h⟩
      | none =>
        have hnothing : s.grantSystem = (s.setSide .host).takeRate := by
          have hpoll : ((s.setSide .host).takeRate).duePoll = none := hp
          have hsweep : ((s.setSide .host).takeRate).sweepNext = none := hs
          have hstate : ((s.setSide .host).takeRate).engine.state ≠ .waiting := hw
          simp only [State.grantSystem, if_neg hstate, hpoll, hsweep]
        rw [hnothing]
        exact hquiet.law

/-! ### The grant of a host's request (R76 to R78) -/

theorem State.checkAccess_eq_pass {h : HostId} {hd : Handle} {a : Addr} (hc : s.checkAccess h hd = .pass a) :
    addrNum a = hd.addr.toNat ∧ (s.entry a).bound = true ∧ (s.entry a).gen = hd.gen ∧ (s.entry a).deferred = none := by
  unfold State.checkAccess at hc
  split at hc
  · cases hc
  · cases hc
  · next b hb =>
    obtain ⟨haddr, hbound, hgen⟩ := State.checkHandle_current hb
    have hnum : addrNum b = hd.addr.toNat := by
      by_cases hn : 1 ≤ hd.addr.toNat ∧ hd.addr.toNat ≤ 62
      · obtain ⟨b', hb', hnb⟩ := exists_addrOfNat_eq_some hn
        rw [hb', Option.some.injEq] at haddr
        exact haddr ▸ hnb
      · rw [addrOfNat_eq_none hn] at haddr
        cases haddr
    have hpass : (s.entry b).deferred = none ∧ b = a := by
      cases hdef : (s.entry b).deferred with
      | none =>
        cases hcl : (s.entry b).claim with
        | none => simpa [hdef, hcl] using hc
        | some c => by_cases hh : c.holder = h <;> simp_all
      | some d =>
        cases hcl : (s.entry b).claim with
        | none => simp [hdef, hcl] at hc
        | some c => by_cases hh : c.holder = h <;> simp_all
    obtain ⟨hnone, rfl⟩ := hpass
    exact ⟨hnum, hbound, hgen, hnone⟩

theorem LineKind.txn_isAccess (k : LineKind) : k.txn.isAccess = true ∧ k.txn ≠ .status := by cases k <;> simp [LineKind.txn, TxnKind.isAccess]

theorem State.Quiet.grantHost {h : HostId} {a : Addr} {r : LineRequest} (k : s.Quiet) (hr : s.line.reset = none)
    (hc : s.checkAccess h r.handle = .pass a) : (s.grantHost h a r).DirectoryLaw := by
  obtain ⟨hnum, hb, hg, hd⟩ := State.checkAccess_eq_pass hc
  obtain ⟨hacc, hstatus⟩ := r.kind.txn_isAccess
  have hslot (g : HostId) : (((s.setSlot h (some ⟨r, true⟩)).setSide .system).takeRate.port g).slot =
      if g = h then some ⟨r, true⟩ else (s.port g).slot := by
    change ((s.setPort h { s.port h with slot := some ⟨r, true⟩ }).port g).slot = _
    rw [State.port_setPort]
    split <;> rfl
  refine State.Ready.law (x := hostTxn h a r) ⟨k.table.congr, k.round, k.parked, k.law.parked.2.1, hr, fun ho => ?_, fun _ => ?_,
    fun g ho => ?_, fun g q hs => ?_, fun h => absurd k.ending h, k.pass⟩
  · cases ho
  · refine ⟨hacc, k.engine, a, Txn.entryAddr_eq_some (addrNum_addr6 a).symm, hb, ?_, ?_⟩
    · exact ⟨fun h => absurd h hstatus, nofun⟩
    · exact ⟨fun h => absurd h hstatus, fun h => absurd hd h⟩
  · obtain rfl : h = g := Owner.host.inj ho
    refine ⟨r, by rw [hslot, if_pos rfl], rfl, ?_, fun b hbn => ?_⟩
    · exact hnum.symm.trans (addrNum_addr6 a).symm
    · obtain rfl : b = a := addrNum_injective (hbn.trans (addrNum_addr6 a))
      exact hg.symm
  · rw [hslot] at hs
    split at hs
    · next he => rw [he]; rfl
    · exact absurd hs (k.slots g q)

/-! ### The choice and the grant (R70, R73 to R76) -/

theorem State.lineFree_refused (s : State) (h : HostId) (ps : List Post) :
    (((s.setRotation h).setSlot h none).postAll ps).lineFree = s.lineFree := by
  simp only [State.lineFree, State.postAll_inReset, State.postAll_line]
  rfl

theorem State.DirectoryLaw.choose (n : Nat) (hl : s.DirectoryLaw) (hf : s.lineFree = true) : (State.choose n s).DirectoryLaw := by
  induction n generalizing s with
  | zero => exact hl
  | succ n ih =>
    have hquiet := hl.quiet_of_free hf
    obtain ⟨-, -, -, -, hreset⟩ := State.lineFree_iff.1 hf
    cases hh : s.nextHost with
    | none =>
      simp only [State.choose, hh]
      split
      · exact hquiet.grantSystem hreset
      · exact hl
    | some h =>
      cases hside : s.systemWaits && s.sched.side == .system with
      | true =>
        simp only [State.choose, hh, hside, if_true]
        exact hquiet.grantSystem hreset
      | false =>
        obtain ⟨r, hr⟩ := Port.candidate_iff.1 (State.candidate_of_nextHost hh)
        rw [State.choose_host n hh hr hside]
        have hrotated : s.Calm (s.setRotation h) := (State.Calm.refl s).setRotation
        cases hc : s.checkAccess h r.handle with
        | pass a => exact (hquiet.calm hrotated).grantHost hreset hc
        | stale | held g | deferred =>
          have hrefused : s.Calm (((s.setRotation h).setSlot h none).postAll (refusedAccess h r.tag r.kind (s.checkAccess h r.handle))) := by
            refine (hrotated.setPort ?_).postAll
            change _ = (s.port h).grantedRequest
            rw [Port.grantedRequest, Port.grantedRequest, hr]
            rfl
          rw [hc] at hrefused
          exact ih (hrefused.law hl) ((s.lineFree_refused h _).trans hf)

/-- A grant keeps the laws (R70). -/
theorem State.DirectoryLaw.grant (hl : s.DirectoryLaw) : s.grant.DirectoryLaw := by
  unfold State.grant
  split
  · next hf => exact hl.choose 5 hf
  · exact hl

end

end Sys2Proof.Machine
end

section
/-! SUPPORT. The end of a transaction: its outcome at the directory and its owner keeps the laws (R6 to R8, R86 to R90, R112 to R114,
R140, R142). -/

namespace Sys2Proof.Machine

set_option Elab.async false

open Sys2Proof

/-! ### Between transactions -/

/-- A transaction of `o` has left the line and is being delivered: its slot may still stand, and a pass may have nothing left. -/
structure State.Between (s : State) (o : Owner) : Prop where
  table : s.TableLaw
  binding : ∀ a, (s.entry a).state ≠ .binding
  engine : s.engine.state.inRound = false
  ending : s.engine.ending = none
  parked : s.dir.parked ≤ 1
  record : s.line.record = none
  slots : ∀ h r, (s.port h).slot = some { req := r, granted := true } → o = .host h
  gap : s.line.gap ≠ none → s.line.state = .idle
  reset : ∀ lr, s.line.reset = some lr → lr.phase ≠ .cutPending → s.line.gap = none

section
variable {s t : State} {o : Owner} {a : Addr} {e : Entry}

theorem State.Between.quiet (k : s.Between o) (ho : ∀ h, o ≠ .host h) (hp : s.PassLaw) : s.Quiet :=
  ⟨k.table, k.binding, k.engine, k.ending, k.parked, k.record, fun h r hs => ho h (k.slots h r hs), k.gap, k.reset, hp⟩

theorem State.Between.calm (k : s.Between o) (h : s.Calm t) : t.Between o := by
  obtain ⟨hstate, hgap, -, -⟩ := Line.traffic_eq h.kept.traffic
  refine ⟨h.table k.table, fun a ha => k.binding a ((h.kept.binding a).1 ha), ?_, ?_, h.kept.parked ▸ k.parked,
    (Line.record_none_iff h.kept.traffic).2 k.record, fun g r hs => ?_, fun hg => ?_, fun lr hlr hp => ?_⟩
  · rcases h.kept.engine with ⟨hst, -⟩ | ⟨-, hf, -⟩
    · rw [hst]
      exact k.engine
    · exact hf
  · rcases h.kept.engine with ⟨-, -, -, hend⟩ | ⟨-, -, hend⟩
    · exact hend.2 k.ending
    · exact hend
  · rw [← Port.grantedRequest_eq_some, h.kept.slots, Port.grantedRequest_eq_some] at hs
    exact k.slots g r hs
  · rw [hstate]
    exact k.gap (hgap ▸ hg)
  · obtain ⟨q, hq, hqp⟩ := Line.reset_of_traffic h.kept.traffic hlr
    rw [hgap]
    exact k.reset q hq (hqp ▸ hp)

theorem State.Between.setSweep (k : s.Between o) (w : Sweep) : ({ s with sweep := w } : State).Between o :=
  ⟨k.table.congr, k.binding, k.engine, k.ending, k.parked, k.record, k.slots, k.gap, k.reset⟩

/-- An entry that stays out of BINDING is rewritten. -/
theorem State.Between.setEntry (k : s.Between o) (hw : e.Wf s.config.missLimit) (hu : e.uid = (s.entry a).uid)
    (hg : (s.entry a).state = .free → e.gen = (s.entry a).gen) (hb : e.state ≠ .binding) : (s.setEntry a e).Between o where
  table := k.table.setEntry hw hu hg
  binding b := by
    rw [State.entry_setEntry]
    split
    · exact hb
    · exact k.binding b
  engine := k.engine
  ending := k.ending
  parked := k.parked
  record := k.record
  slots := k.slots
  gap := k.gap
  reset := k.reset

/-- The slot of a host's delivered transaction is emptied (R87). -/
theorem State.Between.emptied {h : HostId} (k : s.Between (.host h)) : (s.setSlot h none).Between .poller := by
  refine ⟨k.table.congr, k.binding, k.engine, k.ending, k.parked, k.record, fun g r hs => ?_, k.gap, k.reset⟩
  rw [State.setSlot, State.port_setPort] at hs
  split at hs
  · cases hs
  · next hg => exact absurd (Owner.host.inj (k.slots g r hs)).symm hg

theorem State.endIdlePass_passLaw (s : State) : s.endIdlePass.PassLaw := by
  by_cases hp : s.sweep.active = true ∧ (s.nextEligible s.sweep.cursor).isNone = true
  · rw [State.endIdlePass_of_none hp.1 hp.2]
    nofun
  · have hsame : s.endIdlePass = s := State.endIdlePass_of_some (by
      by_cases ha : s.sweep.active = true
      · exact .inr fun hn => hp ⟨ha, hn⟩
      · exact .inl (by simpa using ha))
    rw [hsame]
    intro hact
    by_contra hnone
    exact hp ⟨hact, State.nextEligible_isNone_iff.2 hnone⟩

theorem State.endIdlePass_rest (s : State) : ∃ w, s.endIdlePass = { s with sweep := w } := by
  unfold State.endIdlePass
  split <;> exact ⟨_, rfl⟩

/-- The end of an idle pass makes up for what an outcome has taken from the pass (R140). -/
theorem State.Between.endIdlePass (k : s.Between o) (ho : ∀ h, o ≠ .host h) : s.endIdlePass.Quiet := by
  have hpass := s.endIdlePass_passLaw
  obtain ⟨w, hw⟩ := s.endIdlePass_rest
  rw [hw] at hpass ⊢
  exact (k.setSweep w).quiet ho hpass

/-! ### Outcomes (R6 to R8) -/

theorem State.Between.bumpSerial (k : s.Between o) : s.bumpSerial.Between o := k.calm (State.Calm.refl s).bumpSerial

theorem State.Between.setSerial (k : s.Between o) (p : Prop) [Decidable p] : (if p then s.bumpSerial else s).Between o := by
  split
  · exact k.bumpSerial
  · exact k

theorem Entry.Wf.bound_fields {n : Nat} (h : e.Wf n) (hb : e.bound = true) : e.uid ≠ none ∧ e.quarantine = none := by
  obtain ⟨huid, -, -, -, hquar, -⟩ := h
  refine ⟨fun hn => Entry.bound_ne_free hb (huid.1 hn), ?_⟩
  by_contra hq
  exact Entry.bound_ne_lost hb (hquar.1 hq)

theorem Entry.Wf.present {n : Nat} (h : e.Wf n) (hb : e.bound = true) : Entry.Wf { e with state := .present, miss := 0 } n := by
  obtain ⟨huid, hquar⟩ := h.bound_fields hb
  simp [Entry.Wf, Entry.bound, huid, hquar]

theorem Entry.Wf.suspect {n : Nat} (h : e.Wf n) (hb : e.bound = true) (hm : e.miss + 1 < n) :
    Entry.Wf { e with state := .suspect, miss := e.miss + 1 } n := by
  obtain ⟨huid, hquar⟩ := h.bound_fields hb
  simp only [Entry.Wf, Entry.bound, huid, hquar]
  simp
  omega

/-- A LOST entry keeps uid, class and generation (R8, R10). -/
theorem State.lostEntry_wf {n : Nat} (hu : e.uid ≠ none) : (s.lostEntry e).Wf n := by
  simp [Entry.Wf, State.lostEntry, hu]

theorem State.Between.clearMiss (k : s.Between o) (hb : (s.entry a).bound = true) : (s.clearMiss a).Between o := by
  have hset := k.setEntry (a := a) (e := { s.entry a with state := .present, miss := 0 }) ((k.table.entries a).present hb) rfl
    (fun _ => rfl) (by simp)
  exact hset.setSerial _

theorem State.Between.intoLost (k : s.Between o) (hb : (s.entry a).state ≠ .free) : (s.intoLost a).1.Between o := by
  have huid : (s.entry a).uid ≠ none := fun hn => hb ((k.table.entries a).uid_none_iff.1 hn)
  have hlost : ((s.setEntry a (s.lostEntry (s.entry a))).bumpSerial).Between o :=
    (k.setEntry (s.lostEntry_wf huid) rfl (fun _ => rfl) (by simp [State.lostEntry])).bumpSerial
  rw [State.intoLost_fst]
  split
  · refine hlost.calm (State.freeRecorded_calm ?_ fun he => absurd hlost.ending he)
    rw [State.bumpSerial_entry, State.entry_setEntry_same]
    rfl
  · exact hlost

theorem State.moveToLost_fst (s : State) (a : Addr) (n : Nat) : (s.moveToLost a n).1 = (s.intoLost a).1 := rfl

theorem State.Between.countMiss (k : s.Between o) (hb : (s.entry a).bound = true) (n : Nat) : (s.countMiss a n).1.Between o := by
  unfold State.countMiss
  dsimp only
  split
  · next hm =>
    have hset := k.setEntry (a := a) (e := { s.entry a with state := .suspect, miss := (s.entry a).miss + 1 })
      ((k.table.entries a).suspect hb hm) rfl (fun _ => rfl) (by simp)
    exact hset.setSerial _
  · rw [State.moveToLost_fst]
    exact k.intoLost (Entry.bound_ne_free hb)

theorem State.Between.applyOutcome (k : s.Between o) (out : TxnOutcome) (n : Nat) : (s.applyOutcome a out n).1.Between o := by
  by_cases hb : (s.entry a).bound = true
  · rw [State.applyOutcome_of_bound hb]
    cases out with
    | answered => exact k.clearMiss hb
    | noAnswer | receiptMissing => exact k.countMiss hb n
    | checkFailed | burstFailed | aborted => exact k
  · have hnot : s.applyOutcome a out n = (s, []) := if_neg hb
    rw [hnot]
    exact k

theorem State.Between.directoryTakes (k : s.Between o) (x : Txn) (out : TxnOutcome) : (s.directoryTakes x out).1.Between o := by
  unfold State.directoryTakes
  split
  · exact k.applyOutcome out _
  · exact k

/-! ### Deliveries (R87 to R90) -/

theorem Entry.Wf.setDeferred {n : Nat} (h : e.Wf n) {d : Option Deferred} (hd : d ≠ none → e.bound = true) :
    Entry.Wf { e with deferred := d } n :=
  let ⟨h1, h2, h3, h4, h5, h6, _⟩ := h
  ⟨h1, h2, h3, h4, h5, h6, hd⟩

theorem State.Between.setDeferred (k : s.Between o) {d : Option Deferred} (hd : d ≠ none → (s.entry a).bound = true) :
    (s.setEntry a { s.entry a with deferred := d }).Between o :=
  k.setEntry ((k.table.entries a).setDeferred hd) rfl (fun _ => rfl) (k.binding a)

theorem hostReply_eq_none {x : Txn} {out : TxnOutcome} {uid : Option Uid} (h : hostReply x out uid = none) :
    ∃ v, out = .answered .pend v .receipt := by
  unfold hostReply at h
  split at h
  · cases h
  · split at h
    · split at h
      · next hp => exact ⟨_, by rw [hp]⟩
      · cases h
    · cases h
  all_goals cases h

/-- The entry that answered is bound still (R6). -/
theorem State.applyOutcome_bound (hb : (s.entry a).bound = true) {st : ModStatus} {v : BitVec 16} {p : RefusePoint} {n : Nat} :
    ((s.applyOutcome a (.answered st v p) n).1.entry a).bound = true := by
  have hstate : ((s.clearMiss a).entry a).state = .present := by
    unfold State.clearMiss
    dsimp only
    split
    · rw [State.bumpSerial_entry, State.entry_setEntry_same]
    · rw [State.entry_setEntry_same]
  rw [State.applyOutcome_of_bound hb]
  exact State.bound_iff.2 (.inl hstate)

theorem State.Between.deliverHost (k : s.Between o) {h : HostId} (ho : o = .host h) {x : Txn} {out : TxnOutcome}
    (hb : ∀ a, x.entryAddr = some a → out ≠ .aborted → (s.entry a).bound = true) : (s.deliverHost h x out).Quiet := by
  subst ho
  have hcleared := (k.directoryTakes x out).emptied
  cases hr : hostReply x out ((s.directoryTakes x out).1.uidAt x) with
  | some rb =>
    obtain ⟨ro, b⟩ := rb
    rw [State.deliverHost_of_reply (s1 := (s.directoryTakes x out).1) (ps := (s.directoryTakes x out).2) rfl hr]
    exact (hcleared.endIdlePass nofun).calm (State.Calm.refl _).postAll
  | none =>
    rw [State.deliverHost_of_no_reply (s1 := (s.directoryTakes x out).1) (ps := (s.directoryTakes x out).2) rfl hr]
    refine State.Quiet.calm (State.Between.endIdlePass (o := .poller) ?_ nofun) (State.Calm.refl _).postAll
    unfold State.createDeferred
    split
    · next a ha =>
      refine hcleared.setDeferred fun _ => ?_
      obtain ⟨v, rfl⟩ := hostReply_eq_none hr
      change ((s.directoryTakes x _).1.entry a).bound = true
      rw [State.directoryTakes, ha]
      exact State.applyOutcome_bound (hb a ha (by simp))
    · exact hcleared

theorem State.Between.deliverPoller (k : s.Between .poller) {x : Txn} {out : TxnOutcome} (hp : s.PassLaw) : (s.deliverPoller x out).Quiet := by
  have htakes := k.directoryTakes x out
  cases ha : x.entryAddr with
  | none =>
    have hsame : s.deliverPoller x out = s.postAll [] := by simp only [State.deliverPoller, State.directoryTakes, ha]
    rw [hsame]
    exact k.quiet nofun hp
  | some a =>
    cases hd : ((s.directoryTakes x out).1.entry a).deferred with
    | none =>
      rw [State.deliverPoller_of_none ha (s1 := (s.directoryTakes x out).1) (ps := (s.directoryTakes x out).2) rfl hd]
      exact (htakes.endIdlePass nofun).calm (State.Calm.refl _).postAll
    | some d =>
      rw [State.deliverPoller_of_some ha (s1 := (s.directoryTakes x out).1) (ps := (s.directoryTakes x out).2) rfl hd]
      have hbound : ((s.directoryTakes x out).1.entry a).bound = true := (htakes.table.entries a).2.2.2.2.2.2 (by simp [hd])
      exact ((htakes.setDeferred fun _ => hbound).endIdlePass nofun).calm (State.Calm.refl _).postAll

theorem State.advanceSweep_rest (s : State) (a : Addr) : ∃ w, s.advanceSweep a = { s with sweep := w } := by
  unfold State.advanceSweep
  split
  · split <;> exact ⟨_, rfl⟩
  · exact ⟨_, rfl⟩

theorem State.Between.deliverSweep (k : s.Between .sweep) {x : Txn} {out : TxnOutcome} (hp : s.PassLaw) : (s.deliverSweep x out).Quiet := by
  cases ha : x.entryAddr with
  | none =>
    have hsame : s.deliverSweep x out = s.postAll [] := by simp only [State.deliverSweep, State.directoryTakes, ha]
    rw [hsame]
    exact k.quiet nofun hp
  | some a =>
    rw [State.deliverSweep_eq ha (s1 := (s.directoryTakes x out).1) (ps := (s.directoryTakes x out).2) rfl]
    obtain ⟨w, hw⟩ := (s.directoryTakes x out).1.advanceSweep_rest a
    rw [hw]
    exact (((k.directoryTakes x out).setSweep w).endIdlePass nofun).calm (State.Calm.refl _).postAll

/-- A delivered outcome leaves nothing on the line and nothing granted (R87). -/
theorem State.Between.deliver {x : Txn} (k : s.Between x.owner) {out : TxnOutcome} (hp : s.PassLaw)
    (hb : ∀ a, x.entryAddr = some a → out ≠ .aborted → (s.entry a).bound = true) : (s.deliver x out).Quiet := by
  cases ho : x.owner with
  | host h =>
    rw [State.deliver_of_host ho]
    exact k.deliverHost ho hb
  | poller =>
    rw [State.deliver_of_poller ho]
    exact (ho ▸ k).deliverPoller hp
  | sweep =>
    rw [State.deliver_of_sweep ho]
    exact (ho ▸ k).deliverSweep hp
  | identification =>
    have hsame : s.deliver x out = s := by rw [State.deliver, ho]
    rw [hsame]
    exact k.quiet (by simp [ho]) hp

/-! ### Transactions that end or go on (R79, R83 to R86) -/

/-- A host's, the poller's or the sweep's transaction leaves the line for a gap. -/
theorem State.DirectoryLaw.between (hl : s.DirectoryLaw) {x : Txn} (hx : s.line.record = some x) (hr : s.line.reset = none)
    (ho : x.owner ≠ .identification) (g : Nat) : (s.toGap g none).Between x.owner := by
  obtain ⟨hline, -, hgranted, -⟩ := hl.line
  obtain ⟨-, hround, -⟩ := (hline hr x hx).2.2 ho
  refine ⟨hl.table.congr, State.RoundLaw.no_binding hl.round hround, hround, ?_, hl.parked.1, rfl, fun h r hs => ?_, fun _ => rfl,
    fun lr hlr => ?_⟩
  · by_contra hne
    rw [hl.inRound_of_ending hne] at hround
    cases hround
  · obtain ⟨y, hy, hyo⟩ := (hgranted h).1 ⟨r, hs⟩
    rw [hx, Option.some.injEq] at hy
    exact hy ▸ hyo
  · have hnone : (s.toGap g none).line.reset = none := hr
    rw [hnone] at hlr
    cases hlr

/-- The end of a transaction keeps the laws (R86, R87). -/
theorem State.DirectoryLaw.finish (hl : s.DirectoryLaw) {x y : Txn} (hx : s.line.record = some x) (hr : s.line.reset = none)
    (ho : x.owner ≠ .identification) (hy : y.grant = x.grant) (out : TxnOutcome) (g : Nat) : (s.finish y out g).DirectoryLaw := by
  simp only [Txn.grant, Prod.mk.injEq] at hy
  obtain ⟨-, haddr, hyo, -⟩ := hy
  obtain ⟨-, -, a, ha, hb, -⟩ := (hl.line.1 hr x hx).2.2 ho
  have hentry : y.entryAddr = some a := by
    rw [← ha, Txn.entryAddr, Txn.entryAddr, haddr]
  have hbetween : (s.toGap g none).Between y.owner := hyo ▸ hl.between hx hr ho g
  refine (hbetween.deliver hl.pass fun b hb' _ => ?_).law
  obtain rfl := Option.some.inj (hentry.symm.trans hb')
  exact hb

/-- The same grant in another state of the controller that it may stand in (R79). -/
theorem State.DirectoryLaw.standing (hl : s.DirectoryLaw) {x y : Txn} (hx : s.line.record = some x) (hr : s.line.reset = none)
    (hy : y.grant = x.grant) {m : Line} (hmr : m.record = some y) (hms : m.reset = none) (hstands : y.standsIn m.state = true)
    (hgap : m.gap ≠ none → m.state = .idle) : ({ s with line := m } : State).DirectoryLaw where
  params := hl.params
  entries := hl.entries
  uids := hl.uids
  round := hl.round
  parked := ⟨hl.parked.1, hl.parked.2.1, fun _ hn => by simp [hmr] at hn⟩
  line := by
    simp only [Txn.grant, Prod.mk.injEq] at hy
    obtain ⟨hk, haddr, ho, htag⟩ := hy
    obtain ⟨hline, hslot, hgranted, -, -, -, hending⟩ := hl.line
    obtain ⟨-, hident, haccess⟩ := hline hr x hx
    have hentry : y.entryAddr = x.entryAddr := by rw [Txn.entryAddr, Txn.entryAddr, haddr]
    refine ⟨fun _ z hz => ?_, fun z h hz hzo => ?_, fun h => ?_, fun _ _ => .inl (by simp [hmr]), hgap, fun lr hlr => ?_, hending⟩
    · obtain rfl : y = z := by simpa [hmr] using hz
      refine ⟨hstands, fun hi => ?_, fun hi => ?_⟩
      · rw [hk]
        exact hident (ho ▸ hi)
      · rw [hk, ho, hentry]
        exact haccess (ho ▸ hi)
    · obtain rfl : y = z := by simpa [hmr] using hz
      obtain ⟨r, hs, hrt, hra, hrg⟩ := hslot x h hx (ho ▸ hzo)
      exact ⟨r, hs, hrt.trans htag.symm, haddr ▸ hra, haddr ▸ hrg⟩
    · refine (hgranted h).trans ⟨fun ⟨z, hz, hzo⟩ => ⟨y, hmr, ?_⟩, fun ⟨z, hz, hzo⟩ => ⟨x, hx, ?_⟩⟩
      · rw [hx, Option.some.injEq] at hz
        rw [ho, hz]
        exact hzo
      · obtain rfl : y = z := by simpa [hmr] using hz
        rw [← ho]
        exact hzo
    · rw [show ({ s with line := m } : State).line.reset = none from hms] at hlr
      cases hlr
  pass := hl.pass

theorem State.DirectoryLaw.attemptFails (hl : s.DirectoryLaw) {x y : Txn} (hx : s.line.record = some x) (hr : s.line.reset = none)
    (ho : x.owner ≠ .identification) (hy : y.grant = x.grant) (m : FailMark) (g : Nat) : (s.attemptFails y m g).DirectoryLaw := by
  unfold State.attemptFails
  dsimp only
  split
  · refine hl.standing hx hr (y := { y with mark := y.mark.raise m }) hy rfl hr ?_ fun _ => rfl
    have hyo : y.owner = x.owner := congrArg (fun q => q.2.2.1) hy
    simpa [Txn.standsIn, hyo] using ho
  · exact hl.finish hx hr ho (y := { y with mark := y.mark.raise m }) hy _ g

/-- Off the IDLE state no gap runs. -/
theorem State.DirectoryLaw.gap_none (hl : s.DirectoryLaw) (hs : s.line.state ≠ .idle) : s.line.gap = none := by
  obtain ⟨-, -, -, -, hgap, -⟩ := hl.line
  by_contra hg
  exact hs (hgap hg)

theorem State.DirectoryLaw.toLineState (hl : s.DirectoryLaw) {x : Txn} (hx : s.line.record = some x) (hr : s.line.reset = none)
    (hs : s.line.state ≠ .idle) {l : LineState} (hstands : x.standsIn l = true) : (s.toLineState l).DirectoryLaw :=
  hl.standing hx hr rfl (m := { s.line with state := l }) hx hr hstands fun hg => absurd (hl.gap_none hs) hg

end

end Sys2Proof.Machine
end

section
/-! SUPPORT. The tokens of a round keep the laws: the contention result, the answers, and the decision of the round (R48 to R64). -/

namespace Sys2Proof.Machine

set_option Elab.async false

open Sys2Proof

/-! ### The gap behind a token of a round -/

/-- A token of a round has left the line for a gap; a pass may have nothing left. -/
structure State.RoundGap (s : State) : Prop where
  table : s.TableLaw
  round : s.RoundLaw
  parked : s.ParkedLaw
  record : s.line.record = none
  reset : s.line.reset = none
  gap : s.line.gap ≠ none
  idle : s.line.state = .idle
  slots : ∀ h r, (s.port h).slot ≠ some { req := r, granted := true }
  ending : s.engine.ending ≠ none → s.engine.state.inRound = true

section
variable {s t : State} {a : Addr} {u : Uid}

theorem State.RoundGap.law (k : s.RoundGap) (hp : s.PassLaw) : s.DirectoryLaw where
  params := k.table.params
  entries := k.table.entries
  uids := k.table.uids
  round := k.round
  parked := k.parked
  line := by
    have hrecord := k.record
    have hreset := k.reset
    exact ⟨fun _ x hx => by simp [hrecord] at hx, fun x h hx => by simp [hrecord] at hx,
      fun h => ⟨fun ⟨r, hr⟩ => absurd hr (k.slots h r), fun ⟨x, hx, _⟩ => by simp [hrecord] at hx⟩,
      fun _ _ => .inr k.gap, fun _ => k.idle, fun lr hlr => by simp [hreset] at hlr, k.ending⟩
  pass := hp

/-- The decision of a token changes the directory and the engine. -/
theorem State.RoundGap.replace (k : s.RoundGap) (ht : t.TableLaw) (hr : t.RoundLaw) (hp : t.ParkedLaw)
    (he : t.engine.ending ≠ none → t.engine.state.inRound = true) (hl : t.line = s.line := by rfl)
    (hs : ∀ h, (t.port h).slot = (s.port h).slot := by intro; rfl) : t.RoundGap :=
  ⟨ht, hr, hp, hl ▸ k.record, hl ▸ k.reset, hl ▸ k.gap, hl ▸ k.idle, fun h r => hs h ▸ k.slots h r, he⟩

theorem State.RoundGap.endIdlePass (k : s.RoundGap) : s.endIdlePass.DirectoryLaw := by
  have hpass := s.endIdlePass_passLaw
  obtain ⟨w, hw⟩ := s.endIdlePass_rest
  rw [hw] at hpass ⊢
  exact (k.replace (t := { s with sweep := w }) k.table.congr k.round k.parked k.ending).law hpass

/-- A round's token leaves the line, an UNPARK with the parked count at 0 (R51, R82). -/
theorem State.DirectoryLaw.roundGap (hl : s.DirectoryLaw) {x : Txn} (hx : s.line.record = some x) (hr : s.line.reset = none)
    (ho : x.owner = .identification) (hp : s.engine.state = .unparking → s.dir.parked = 0) (g : Nat) :
    (s.toGap g none).RoundGap := by
  obtain ⟨-, -, hgranted, -⟩ := hl.line
  refine ⟨hl.table.congr, hl.round, ⟨hl.parked.1, hl.parked.2.1, fun h _ => hp h⟩, rfl, hr, by simp [State.toGap], rfl,
    fun h r hs => ?_, hl.inRound_of_ending⟩
  obtain ⟨y, hy, hyo⟩ := (hgranted h).1 ⟨r, hs⟩
  rw [hx, Option.some.injEq] at hy
  rw [← hy, ho] at hyo
  cases hyo

/-! ### Decided rounds (R50) -/

/-- A round whose result is decided holds no entry in BINDING (R48). -/
theorem State.RoundLaw.of_decided (hb : ∀ a, (t.entry a).state ≠ .binding) (he : t.engine.ending ≠ none)
    (hsome : (t.engine.state = .binding ∨ t.engine.state = .confirming) → t.engine.chosen ≠ none ∧ t.engine.candidate ≠ none)
    (hpark : t.engine.state = .parking → t.engine.candidate ≠ none) : t.RoundLaw :=
  ⟨fun a => ⟨fun h => absurd h (hb a), fun h => absurd h.2.1 he⟩, hsome, hpark, fun a h => absurd h (hb a)⟩

theorem State.ParkedLaw.of_decided (hp : t.dir.parked ≤ 1) (he : t.engine.ending ≠ none) (hs : t.engine.state ≠ .unparking) :
    t.ParkedLaw := ⟨hp, fun _ h => absurd h he, fun h => absurd h hs⟩

/-- The one entry in BINDING of an undecided bind is the chosen one (R48, R55). -/
theorem State.RoundLaw.binding_iff (hl : s.RoundLaw) (hs : s.engine.state = .binding ∨ s.engine.state = .confirming)
    (he : s.engine.ending = none) (ha : s.engine.chosen = some a) (b : Addr) : (s.entry b).state = .binding ↔ b = a := by
  rw [hl.1, ha, Option.some.injEq]
  exact ⟨fun h => h.2.2.symm, fun h => ⟨hs, he, h.symm⟩⟩

theorem Entry.Wf.bindDone {e : Entry} {n : Nat} (h : e.Wf n) (hs : e.state = .binding) (gen : BitVec 8) (cls : Option Byte) :
    Entry.Wf { e with state := .present, gen := gen, miss := 0, cls := cls } n := by
  obtain ⟨huid, -, -, -, hquar, -⟩ := h
  have hu : e.uid ≠ none := fun hn => by simp [hs] at huid; exact huid hn
  have hq : e.quarantine = none := by
    by_contra hne
    rw [hquar.1 hne] at hs
    cases hs
  simp [Entry.Wf, Entry.bound, hu, hq]

/-- The bind at the chosen entry completes (R57). -/
theorem State.RoundGap.completeBind (k : s.RoundGap) (hs : s.engine.state = .binding ∨ s.engine.state = .confirming)
    (he : s.engine.ending = none) (ha : s.engine.chosen = some a) (cls : Option Byte) : (s.completeBind a cls).1.RoundGap := by
  have hbind := State.RoundLaw.binding_iff k.round hs he ha
  obtain ⟨-, hcand⟩ := k.round.2.1 hs
  obtain ⟨u, hu⟩ := Option.ne_none_iff_exists'.1 hcand
  have huid : (s.entry a).uid = some u := (k.round.2.2.2 a ((hbind a).2 rfl)).trans hu
  have hidle : s.engine.state ≠ .idle := by rcases hs with hs | hs <;> simp [hs]
  rw [State.completeBind_eq hidle huid]
  have hset := k.table.setEntry (a := a)
    ((k.table.entries a).bindDone ((hbind a).2 rfl) ((s.entry a).gen + 1) cls) rfl (fun h => by simp [(hbind a).2 rfl] at h)
  refine k.replace (hset.congr) (State.RoundLaw.of_decided (fun b hb => ?_) (by simp) (fun h => k.round.2.1 h) fun h => ?_)
    (State.ParkedLaw.of_decided k.parked.1 (by simp) ?_) fun _ => ?_
  · change ((s.setEntry a _).entry b).state = .binding at hb
    rw [State.entry_setEntry] at hb
    split at hb
    · cases hb
    · next hne => exact hne ((hbind b).1 hb)
  · rcases hs with hs | hs <;> simp [hs] at h
  · rcases hs with hs | hs <;> simp [hs]
  · rcases hs with hs | hs <;> simp [hs, EngineState.inRound]

/-- The bind at the chosen entry has finally failed (R59). -/
theorem State.RoundGap.failBind (k : s.RoundGap) (hs : s.engine.state = .confirming)
    (he : s.engine.ending = none) (ha : s.engine.chosen = some a) : (s.failBind a).1.RoundGap := by
  have hbind := State.RoundLaw.binding_iff k.round (.inr hs) he ha
  obtain ⟨-, hcand⟩ := k.round.2.1 (.inr hs)
  obtain ⟨u, hu⟩ := Option.ne_none_iff_exists'.1 hcand
  have huid : (s.entry a).uid = some u := (k.round.2.2.2 a ((hbind a).2 rfl)).trans hu
  have hidle : s.engine.state ≠ .idle := by simp [hs]
  have hlost : ((s.setEntry a (s.lostEntry (s.entry a))).bumpSerial).TableLaw :=
    State.TableLaw.congr (k.table.setEntry (a := a) (s.lostEntry_wf (by simp [huid])) rfl fun _ => rfl)
  have hinto : ∃ v ps w, s.intoLost a = (v, ps) ∧ v.TableLaw ∧ (∀ b, (v.entry b).state ≠ .binding) ∧
      v.engine = { s.engine with wanted := w } ∧ v.line = s.line ∧ v.ports = s.ports ∧ v.dir.parked = s.dir.parked := by
    have hother {e : Entry} (hne : e.state ≠ .binding) (b : Addr) : ((s.setEntry a e).entry b).state ≠ .binding := by
      rw [State.entry_setEntry]
      split
      · exact hne
      · next hb => exact fun h => hb ((hbind b).1 h)
    by_cases hq : s.config.quarantine = 0
    · have hfreed := hlost.freeRecorded (a := a) (by rw [State.bumpSerial_entry, State.entry_setEntry_same]; simp [State.lostEntry])
      have hzero := State.intoLost_of_zero (s := s) (a := a) hq
      rw [State.freeRecorded_lost huid] at hfreed hzero
      obtain ⟨w, hw⟩ := State.wantIfParked_of_ne_idle (s := { s with dir := { s.dir with
        entries := s.dir.entries.set a { gen := (s.entry a).gen }
        recalls := joinRecall s.dir.recalls ⟨u, a, (s.entry a).gen⟩
        serial := s.dir.serial + 1 } }) hidle
      rw [hw] at hfreed hzero
      exact ⟨_, _, w, hzero, hfreed, hother (e := { gen := (s.entry a).gen }) (by simp), rfl, rfl, rfl, rfl⟩
    · exact ⟨_, _, s.engine.wanted, State.intoLost_of_quarantine hq, hlost, hother (by simp [State.lostEntry]), rfl, rfl, rfl, rfl⟩
  obtain ⟨v, ps, w, hv, htable, hnone, hengine, hline, hports, hparked⟩ := hinto
  obtain ⟨hlt, hle⟩ := State.failBind_eq hidle hu hv hengine
  have hslot (h : HostId) : (v.port h).slot = (s.port h).slot := by rw [State.port, hports, State.port]
  by_cases hn : s.failureCount u < 3
  · rw [hlt hn]
    exact k.replace htable.congr (State.RoundLaw.of_decided hnone (by simp) (fun h => k.round.2.1 h) (by simp [hs]))
      (State.ParkedLaw.of_decided (hparked.trans_le k.parked.1) (by simp) (by simp [hs])) (fun _ => by simp [hs, EngineState.inRound])
      hline hslot
  · rw [hle (Nat.not_lt.1 hn)]
    exact k.replace htable.congr (State.RoundLaw.of_decided hnone (by simp) (fun h => k.round.2.1 h) (by simp [hs]))
      (State.ParkedLaw.of_decided (hparked.trans_le k.parked.1) (by simp) (by simp [hs])) (fun _ => by simp [hs, EngineState.inRound])
      hline hslot

/-- The bind goes on with ASSIGN or its confirming PING (R56, R58). -/
theorem State.RoundGap.goesOn (k : s.RoundGap) (hs : s.engine.state = .binding ∨ s.engine.state = .confirming)
    (he : s.engine.ending = none) {st : EngineState} (hst : st = .binding ∨ st = .confirming) :
    (s.modEngine fun e => { e with state := st }).RoundGap := by
  obtain ⟨hbind, hsome, hpark, huid⟩ := k.round
  refine k.replace k.table.congr ⟨fun a => (hbind a).trans ?_, fun _ => hsome hs, fun h => ?_, huid⟩
    ⟨k.parked.1, fun _ _ => k.parked.2.1 (by tauto) he, fun h => ?_⟩ fun _ => ?_
  · exact and_congr_left fun _ => ⟨fun _ => hst, fun _ => hs⟩
  · change st = .parking at h
    rcases hst with hst | hst <;> simp [hst] at h
  · change st = .unparking at h
    rcases hst with hst | hst <;> simp [hst] at h
  · change st.inRound = true
    rcases hst with hst | hst <;> rw [hst] <;> rfl

/-- The park succeeds, goes on, or fails (R61 to R63). -/
theorem State.RoundGap.decidePark (k : s.RoundGap) (hs : s.engine.state = .parking) (he : s.engine.ending = none) (j : Judgement) :
    (s.decidePark j).1.RoundGap := by
  have hidle : s.engine.state ≠ .idle := by simp [hs]
  have hnone : ∀ b, (s.entry b).state ≠ .binding := fun b hb => by
    have := ((k.round.1 b).1 hb).1
    simp [hs] at this
  obtain ⟨u, hu⟩ := Option.ne_none_iff_exists'.1 (k.round.2.2.1 hs)
  have hcand : s.candidateUid = u := by rw [State.candidateUid, hu]; rfl
  have hdecided {t : State} (ht : ∃ n e, t = { s with dir := { s.dir with parked := n }, engine := e } ∧ n ≤ 1 ∧
      e.state = s.engine.state ∧ e.chosen = s.engine.chosen ∧ e.candidate = s.engine.candidate ∧ e.ending = some .plain) : t.RoundGap := by
    obtain ⟨n, e, rfl, hn, hst, hch, hcd, hend⟩ := ht
    refine k.replace k.table.congr (State.RoundLaw.of_decided hnone (by simp [hend]) (fun h => ?_) fun _ => ?_)
      (State.ParkedLaw.of_decided hn (by simp [hend]) (by simp [hst, hs])) fun _ => ?_
    · simp [hst, hs] at h
    · simp [hcd, hu]
    · simp [hst, hs, EngineState.inRound]
  have hzero : s.dir.parked = 0 := k.parked.2.1 (by simp [hs]) he
  cases j with
  | correct st v =>
    have hdec : s.decidePark (.correct st v) = s.parkAccepted := rfl
    rw [hdec, State.parkAccepted_eq hidle hu]
    exact hdecided ⟨s.dir.parked + 1, _, rfl, by omega, rfl, rfl, rfl, rfl⟩
  | absent | garbled =>
    unfold State.decidePark
    dsimp only
    split
    · exact k
    · rw [State.failPark_fst, hcand]
      by_cases hn : s.failureCount u < 3
      · rw [State.recordFailure_of_lt hidle hn]
        exact hdecided ⟨s.dir.parked, _, rfl, k.parked.1, rfl, rfl, rfl, rfl⟩
      · rw [State.recordFailure_of_le (Nat.not_lt.1 hn)]
        exact hdecided ⟨s.dir.parked, _, rfl, k.parked.1, rfl, rfl, rfl, rfl⟩

/-- The engine's decision on the answer to its token (R82, R89). -/
theorem State.RoundGap.engineDecides (k : s.RoundGap) {kind : TxnKind} (hk : kind.engineState = some s.engine.state)
    (he : s.engine.ending = none) (j : Judgement) : (s.engineDecides kind j).1.RoundGap := by
  cases kind with
  | assign =>
    have hs : s.engine.state = .binding := (Option.some.inj hk).symm
    obtain ⟨a, ha⟩ := Option.ne_none_iff_exists'.1 (k.round.2.1 (.inl hs)).1
    rw [State.engineDecides_of_assign ha]
    cases j with
    | correct st v => exact k.completeBind (.inl hs) he ha _
    | absent | garbled => exact k.goesOn (.inl hs) he (.inr rfl)
  | ping =>
    have hs : s.engine.state = .confirming := (Option.some.inj hk).symm
    obtain ⟨a, ha⟩ := Option.ne_none_iff_exists'.1 (k.round.2.1 (.inr hs)).1
    rw [State.engineDecides_of_ping ha, State.decideConfirm]
    split
    · exact k.completeBind (.inr hs) he ha _
    · split
      · exact k.goesOn (.inr hs) he (.inl rfl)
      · exact k.failBind hs he ha
  | park =>
    rw [State.engineDecides_of_park]
    exact k.decidePark (Option.some.inj hk).symm he j
  | unpark | seek | read | write | status =>
    have hsame (kind : TxnKind) (h1 : kind ≠ .assign) (h2 : kind ≠ .ping) (h3 : kind ≠ .park) : s.engineDecides kind j = (s, []) := by
      unfold State.engineDecides
      split
      · exact absurd rfl h1
      · exact absurd rfl h2
      · exact absurd rfl h3
      · rfl
    rw [hsame _ (by simp) (by simp) (by simp)]
    exact k

theorem State.DirectoryLaw.roundAnswer (hl : s.DirectoryLaw) {x : Txn} (hx : s.line.record = some x) (hr : s.line.reset = none)
    (ho : x.owner = .identification) (hs : s.line.state = .answerWait ∨ s.line.state = .answer) (j : Judgement) :
    (s.roundAnswer x j).DirectoryLaw := by
  obtain ⟨hstands, hident, -⟩ := hl.line.1 hr x hx
  obtain ⟨hkind, hending⟩ := hident ho
  have hnot : s.engine.state ≠ .unparking := by
    intro hst
    have hk : x.kind = .unpark := by
      rw [hst] at hkind
      revert hkind
      cases x.kind <;> simp [TxnKind.engineState]
    rcases hs with hs | hs <;> simp [Txn.standsIn, hs, hk] at hstands
  rw [State.roundAnswer_eq]
  exact (State.Calm.refl _).postAll.law
    (((hl.roundGap hx hr ho (fun h => absurd h hnot) Config.gapBits).engineDecides hkind hending j).endIdlePass)

/-! ### The contention result (R52 to R55) -/

theorem State.chooseAddress_parked (s : State) (u : Uid) : (s.chooseAddress u).1.dir.parked = s.dir.parked := by
  unfold State.chooseAddress
  split
  · split <;> rfl
  · split
    · rfl
    · split
      · rfl
      · split <;> rfl

theorem State.takeFree_entry (s : State) (a : Addr) (u : Uid) (b : Addr) :
    (s.takeFree a u).entry b = if b = a then { s.entry a with state := .binding, uid := some u } else s.entry b := by
  rw [State.takeFree, State.bumpSerial_entry, State.entry_setEntry]

/-- The address chosen for a candidate is that of the one entry in BINDING, which holds its uid (R17, R55). -/
structure State.Chosen (s : State) (u : Uid) (a : Addr) : Prop where
  table : s.TableLaw
  binding : ∀ b, (s.entry b).state = .binding ↔ b = a
  uid : (s.entry a).uid = some u

theorem State.Chosen.of_takeFree (hl : s.TableLaw) (hb : ∀ b, (s.entry b).state ≠ .binding) {l : List Recall}
    (hs : l.Sublist s.dir.recalls) (hf : (s.entry a).state = .free) (hla : ∀ r ∈ l, r.addr ≠ a) (hlu : ∀ r ∈ l, r.uid ≠ u)
    (hu : ∀ b, (s.entry b).uid ≠ some u) (hz : u ≠ 0 ∧ u ≠ BitVec.allOnes 48) : ((s.setRecalls l).takeFree a u).Chosen u a where
  table := hl.takeFree hs hf hla hlu hu hz
  binding b := by
    rw [State.takeFree_entry]
    split
    · next h => simp [h]
    · next h => exact ⟨fun hbind => absurd hbind (hb b), fun he => absurd he h⟩
  uid := by rw [State.takeFree_entry, if_pos rfl]

theorem State.Chosen.of_setEntry (hl : s.TableLaw) (hb : ∀ b, (s.entry b).state ≠ .binding) {e : Entry} (hw : e.Wf s.config.missLimit)
    (he : e.state = .binding) (heu : e.uid = (s.entry a).uid) (hu : (s.entry a).uid = some u) (hf : (s.entry a).state ≠ .free) :
    (s.setEntry a e).bumpSerial.Chosen u a where
  table := State.TableLaw.congr (hl.setEntry hw heu fun h => absurd h hf)
  binding b := by
    rw [State.bumpSerial_entry, State.entry_setEntry]
    split
    · next h => simp [h, he]
    · next h => exact ⟨fun hbind => absurd hbind (hb b), fun he => absurd he h⟩
  uid := by rw [State.bumpSerial_entry, State.entry_setEntry_same, heu, hu]

/-- An entry taken for a round keeps its uid and generation alone (R17 to R19). -/
theorem Entry.Wf.of_binding {e : Entry} {n : Nat} (hs : e.state = .binding) (hu : e.uid ≠ none) (hc : e.cls = none) (hm : e.miss = 0)
    (hq : e.quarantine = none) (hcl : e.claim = none) (hd : e.deferred = none) : e.Wf n := by
  simp [Entry.Wf, hs, hu, hc, hm, hq, hcl, hd]

theorem State.TableLaw.chooseAddress (hl : s.TableLaw) (hb : ∀ b, (s.entry b).state ≠ .binding) (hz : u ≠ 0 ∧ u ≠ BitVec.allOnes 48)
    {ps : List Post} {path : BindPath} (hc : s.chooseAddress u = (t, ps, some (a, path))) : t.Chosen u a := by
  have hnotheld (hh : s.holderOf u = none) (b : Addr) : (s.entry b).uid ≠ some u := by
    intro hub
    refine State.holderOf_eq_none_iff.1 hh b ⟨fun hf => ?_, hub⟩
    rw [(hl.entries b).uid_none_iff.2 hf] at hub
    cases hub
  obtain ⟨-, -, -, -, -, hanodup, hrfree, -⟩ := hl.uids
  cases hh : s.holderOf u with
  | some b =>
    obtain ⟨hfree, hub⟩ := (State.holderOf_eq_some_iff.1 hh).1
    have hw := hl.entries b
    by_cases hbound : (s.entry b).bound = true
    · rw [State.chooseAddress_of_bound hh hbound] at hc
      cases hc
      obtain ⟨hne, hquar⟩ := hw.bound_fields hbound
      exact State.Chosen.of_setEntry hl hb (.of_binding rfl hne rfl rfl hquar rfl rfl) rfl rfl hub hfree
    · have hlost : (s.entry b).state = .lost := by
        have hbind := hb b
        rw [State.bound_iff, not_or] at hbound
        revert hfree hbind hbound
        cases (s.entry b).state <;> simp
      rw [State.chooseAddress_of_lost hh hlost] at hc
      obtain ⟨hclaim, hdef⟩ := hw.unbound (by simpa using hbound)
      have hmiss : (s.entry b).miss = 0 := hw.2.2.1 (by simp [hlost])
      cases hc
      exact State.Chosen.of_setEntry hl hb (.of_binding rfl (by simp [hub]) rfl hmiss rfl hclaim hdef) rfl rfl hub hfree
  | none =>
    have hnot := hnotheld hh
    cases hr : s.recallOf u with
    | some x =>
      rw [State.chooseAddress_of_recall hh hr] at hc
      cases hc
      have hx : x ∈ s.dir.recalls := List.mem_of_find?_eq_some hr
      have hxu : x.uid = u := by simpa using List.find?_some hr
      refine State.Chosen.of_takeFree hl hb List.filter_sublist (hrfree x hx).1 (fun r hrm haddr => ?_) (fun r hrm => ?_) hnot hz
      · obtain ⟨hrm, hru⟩ := List.mem_filter.1 hrm
        have hsame : r = x := List.inj_on_of_nodup_map hanodup hrm hx haddr
        rw [hsame, hxu] at hru
        simp at hru
      · simpa using (List.mem_filter.1 hrm).2
    | none =>
      have hnorecord := State.recallOf_eq_none_iff.1 hr
      cases hu : s.lowestUnreserved with
      | some b =>
        rw [State.chooseAddress_of_unreserved hh hr hu] at hc
        cases hc
        obtain ⟨hfree, hres⟩ := (State.lowestUnreserved_eq_some_iff.1 hu).1
        exact State.Chosen.of_takeFree (l := s.dir.recalls) hl hb (List.Sublist.refl _) hfree hres hnorecord hnot hz
      | none =>
        cases hf : s.lowestFree with
        | some b =>
          rw [State.chooseAddress_of_reserved hh hr hu hf] at hc
          cases hc
          refine State.Chosen.of_takeFree hl hb List.filter_sublist (State.lowestFree_eq_some_iff.1 hf).1 (fun r hrm => ?_)
            (fun r hrm => hnorecord r (List.mem_of_mem_filter hrm)) hnot hz
          simpa using (List.mem_filter.1 hrm).2
        | none =>
          rw [State.chooseAddress_of_full hh hr hu hf] at hc
          cases hc

/-- With no address chosen nothing has changed (R17 step 5). -/
theorem State.chooseAddress_none {ps : List Post} (hc : s.chooseAddress u = (t, ps, none)) : t = s := by
  unfold State.chooseAddress at hc
  split at hc
  · split at hc <;> cases hc
  · split at hc
    · cases hc
    · split at hc
      · cases hc
      · split at hc
        · cases hc
        · exact (Prod.mk.inj hc).1.symm

/-- The contention result ends the round or leads it on to BINDING or PARKING (R52 to R55). -/
theorem State.RoundGap.contentionResult (k : s.RoundGap) (hs : s.engine.state = .seeking) (he : s.engine.ending = none) (u : Uid) :
    (s.contentionResult u).1.RoundGap := by
  have hnone : ∀ b, (s.entry b).state ≠ .binding := fun b hb => by
    have := ((k.round.1 b).1 hb).1
    simp [hs] at this
  have hzero : s.dir.parked = 0 := k.parked.2.1 (.inl hs) he
  have hdecided (how : RoundEnd) : (s.decideRound how).RoundGap := by
    refine k.replace k.table.congr (State.RoundLaw.of_decided hnone (by simp [State.decideRound, State.modEngine]) (fun h => ?_) fun h => ?_)
      (State.ParkedLaw.of_decided k.parked.1 (by simp [State.decideRound, State.modEngine]) ?_) fun _ => ?_
    all_goals simp_all [State.decideRound, State.modEngine, EngineState.inRound]
  by_cases h1 : u = BitVec.allOnes 48
  · rw [h1, State.contentionResult_of_empty]
    exact hdecided _
  · by_cases h0 : u = 0
    · rw [h0, State.contentionResult_of_fouled]
      exact hdecided _
    · obtain ⟨d, hd⟩ := s.chooseAddress_rest u
      have hparked := s.chooseAddress_parked u
      rcases hc : s.chooseAddress u with ⟨t, ps, _ | ⟨a, path⟩⟩
      · obtain rfl := State.chooseAddress_none hc
        rw [State.contentionResult_of_full h1 h0 hc]
        refine k.replace k.table.congr ⟨fun b => ⟨fun hb => absurd hb (hnone b), fun hb => ?_⟩, fun h => ?_, fun _ => ?_,
          fun b hb => absurd hb (hnone b)⟩ ⟨k.parked.1, fun _ _ => hzero, fun h => ?_⟩ fun _ => rfl
        · simp [State.modEngine] at hb
        · simp [State.modEngine] at h
        · simp [State.modEngine]
        · simp [State.modEngine] at h
      · have hchosen := k.table.chooseAddress hnone ⟨h0, h1⟩ hc
        rw [hc] at hd hparked
        change t = _ at hd
        change t.dir.parked = _ at hparked
        have hengine : t.engine = s.engine := by rw [hd]
        rw [State.contentionResult_of_chosen h1 h0 hc]
        refine k.replace hchosen.table.congr ⟨fun b => ?_, fun _ => ?_, fun h => ?_, fun b hb => ?_⟩
          ⟨hparked.trans_le k.parked.1, fun _ _ => hparked.trans hzero, fun h => ?_⟩ (fun _ => rfl) ?_ fun h => ?_
        · refine (hchosen.binding b).trans ?_
          simp [State.modEngine, hengine, he, eq_comm]
        · simp [State.modEngine]
        · simp [State.modEngine] at h
        · obtain rfl := (hchosen.binding b).1 hb
          exact hchosen.uid
        · simp [State.modEngine] at h
        · change t.line = s.line
          rw [hd]
        · change (t.port h).slot = _
          rw [hd]
          rfl

theorem State.DirectoryLaw.takeContention (hl : s.DirectoryLaw) {x : Txn} (hx : s.line.record = some x) (hr : s.line.reset = none)
    (hs : s.line.state = .contention) (u : Uid) : (s.takeContention u).DirectoryLaw := by
  obtain ⟨hst, hending⟩ := hl.seeking_of_contention hx (State.cutPending_of_none hr) hs
  obtain ⟨hstands, -, haccess⟩ := hl.line.1 hr x hx
  have hk : x.kind = .seek := by simpa [Txn.standsIn, hs] using hstands
  have ho : x.owner = .identification := by
    by_contra hne
    have hacc := (haccess hne).1
    rw [hk] at hacc
    cases hacc
  rw [State.takeContention_eq]
  exact (State.Calm.refl _).postAll.law
    ((hl.roundGap hx hr ho (fun h => by simp [hst] at h) Config.gapBits).contentionResult hst hending u).endIdlePass

end

end Sys2Proof.Machine
end

section
/-! SUPPORT. The laws of the directory over every step: line resets, gap ends and the events of Event (R70, R170 to R172). -/

namespace Sys2Proof.Machine

set_option Elab.async false

open Sys2Proof

/-! ### Line resets (R26, R32, R69, R143, R170 to R172) -/

section
variable {s t : State}

theorem State.resetDirectory_parked (s : State) : s.resetDirectory.dir.parked = 0 := by
  unfold State.resetDirectory
  dsimp only
  split <;> rfl

/-- A line reset reaches neither the ports nor the line's traffic (R26). -/
theorem State.resetDirectory_rest (s : State) : ∃ d, s.resetDirectory = { s with dir := d } := by
  unfold State.resetDirectory
  dsimp only
  split <;> exact ⟨_, rfl⟩

/-- A line reset begins: every entry FREE, no round, no pass, and the cut to come (R170). -/
theorem State.DirectoryLaw.resetBegun (hl : s.DirectoryLaw) (reason : ResetReason) (qs : List Requester) :
    (s.resetBegun reason qs).DirectoryLaw := by
  have hfree : ∀ a, ((s.resetBegun reason qs).entry a).state = .free := s.resetDirectory_state
  have hgen : ∀ a, ((s.resetBegun reason qs).entry a).gen = (s.entry a).gen := s.resetDirectory_steady.gen
  have htable : s.resetDirectory.TableLaw := hl.table.resetDirectory
  obtain ⟨d, hd⟩ := s.resetDirectory_rest
  obtain ⟨-, hslot, hgranted, -, hgap, -⟩ := hl.line
  have hparked : (s.resetBegun reason qs).dir.parked = 0 := s.resetDirectory_parked
  have hrecord : (s.resetBegun reason qs).line.record = s.line.record := by
    change s.resetDirectory.line.record = _
    rw [hd]
  have hport (h : HostId) : (s.resetBegun reason qs).port h = s.port h := by
    change s.resetDirectory.port h = _
    rw [hd]
    rfl
  refine
    { params := htable.params
      entries := htable.entries
      uids := htable.uids
      round := ⟨fun a => ?_, ?_, ?_, fun a ha => ?_⟩
      parked := ⟨by omega, ?_, ?_⟩
      line := ⟨nofun, fun x h hx ho => ?_, fun h => ?_, nofun, fun hg => ?_, fun lr hlr => ⟨rfl, fun hp => ?_⟩, fun he => absurd rfl he⟩
      pass := nofun }
  · refine ⟨fun h => absurd h (by rw [hfree]; simp), fun h => ?_⟩
    simp [State.resetBegun, State.resetEngine, State.modEngine, State.resetSweep] at h
  · simp [State.resetBegun, State.resetEngine, State.modEngine, State.resetSweep]
  · simp [State.resetBegun, State.resetEngine, State.modEngine, State.resetSweep]
  · rw [hfree] at ha
    cases ha
  · simp [State.resetBegun, State.resetEngine, State.modEngine, State.resetSweep]
  · simp [State.resetBegun, State.resetEngine, State.modEngine, State.resetSweep]
  · rw [hrecord] at hx
    obtain ⟨r, hr, hrt, hra, hrg⟩ := hslot x h hx ho
    exact ⟨r, by rw [hport, hr], hrt, hra, fun a ha => by rw [hgen]; exact hrg a ha⟩
  · rw [hport, hrecord]
    exact hgranted h
  · have hline : (s.resetBegun reason qs).line.gap = s.line.gap ∧ (s.resetBegun reason qs).line.state = s.line.state := by
      change s.resetDirectory.line.gap = _ ∧ s.resetDirectory.line.state = _
      rw [hd]
      exact ⟨rfl, rfl⟩
    rw [hline.2]
    exact hgap (hline.1 ▸ hg)
  · obtain rfl := Option.some.inj hlr
    exact absurd rfl hp

theorem State.DirectoryLaw.beginLineReset (hl : s.DirectoryLaw) (reason : ResetReason) (qs : List Requester) :
    (s.beginLineReset reason qs).DirectoryLaw := by
  rw [State.beginLineReset_eq]
  exact (State.Calm.refl _).postAll.law (hl.resetBegun reason qs)

theorem State.DirectoryLaw.requestLineReset (hl : s.DirectoryLaw) (h : HostId) (tag : Tag) : (s.requestLineReset h tag).DirectoryLaw := by
  unfold State.requestLineReset
  split
  · next lr hlr =>
    have hjoin : s.Calm (s.joinLineReset lr h tag) := .of_like (fun _ => .refl _) (hl := by
      simp only [Line.traffic, State.joinLineReset, hlr]
      rfl)
    exact hjoin.law hl
  · exact hl.beginLineReset _ _

/-- The cut leaves nothing on the line (R91, R171). -/
theorem State.DirectoryLaw.cut (hl : s.DirectoryLaw) {lr : LineReset} (hlr : s.line.reset = some lr) : (s.cut lr).Quiet := by
  obtain ⟨-, -, hgranted, -, -, hreset, -⟩ := hl.line
  obtain ⟨hround, -⟩ := hreset lr hlr
  have hending : s.engine.ending = none := by
    by_contra hne
    rw [hl.inRound_of_ending hne] at hround
    cases hround
  have hbegun {o : Owner} (hs : ∀ h r, (s.port h).slot = some { req := r, granted := true } → o = .host h) :
      (s.holdBegun lr).Between o :=
    ⟨hl.table.congr, State.RoundLaw.no_binding hl.round hround, hround, hending, hl.parked.1, rfl, hs, fun h => absurd rfl h,
      fun _ _ _ => rfl⟩
  rw [State.cut_eq]
  cases hx : s.line.record with
  | some x =>
    refine (hbegun fun h r hs => ?_).deliver hl.pass fun a _ ho => absurd rfl ho
    obtain ⟨y, hy, hyo⟩ := (hgranted h).1 ⟨r, hs⟩
    rw [hx, Option.some.injEq] at hy
    exact hy ▸ hyo
  | none =>
    refine (hbegun (o := .poller) fun h r hs => ?_).quiet nofun hl.pass
    obtain ⟨y, hy, -⟩ := (hgranted h).1 ⟨r, hs⟩
    rw [hx] at hy
    cases hy

/-- Behind the cut the line holds nothing (R171). -/
theorem State.DirectoryLaw.quiet_of_reset (hl : s.DirectoryLaw) {lr : LineReset} (hlr : s.line.reset = some lr)
    (hp : lr.phase ≠ .cutPending) : s.Quiet ∧ s.line.gap = none := by
  obtain ⟨-, -, -, -, -, hreset, -⟩ := hl.line
  obtain ⟨hround, hafter⟩ := hreset lr hlr
  obtain ⟨hgap, hrecord⟩ := hafter hp
  exact ⟨hl.quiet hrecord hround, hgap⟩

theorem State.Quiet.setLine (k : s.Quiet) {l : Line} (hrec : l.record = none) (hgap : l.gap ≠ none → l.state = .idle)
    (hreset : ∀ lr, l.reset = some lr → lr.phase ≠ .cutPending → l.gap = none) : ({ s with line := l } : State).Quiet :=
  ⟨k.table.congr, k.binding, k.engine, k.ending, k.parked, hrec, k.slots, hgap, hreset, k.pass⟩

theorem ResetEffect.law {lr : LineReset} (hx : ResetEffect s lr t) (hl : s.DirectoryLaw) (hlr : s.line.reset = some lr) : t.DirectoryLaw := by
  cases hx with
  | cut hp => exact (hl.cut hlr).law
  | held n hp =>
    obtain ⟨hq, hgap⟩ := hl.quiet_of_reset hlr (by simp [hp])
    exact (hq.setLine (l := { s.line with reset := some { lr with phase := .wait }, bitTimes := s.line.bitTimes + n }) hq.record
      (fun h => absurd hgap h) fun _ _ _ => hgap).law
  | waited n hp =>
    obtain ⟨hq, hgap⟩ := hl.quiet_of_reset hlr (by simp [hp])
    exact (hq.setLine (l := { s.line with
      state := .command, reset := some { lr with phase := .token }, bitTimes := s.line.bitTimes + n }) hq.record
      (fun h => absurd hgap h) fun _ _ _ => hgap).law
  | sent hp =>
    obtain ⟨hq, hgap⟩ := hl.quiet_of_reset hlr (by simp [hp])
    exact ((hq.setLine (l := { s.line with
      state := .idle, gap := some Config.gapBits, start := .untold, record := none, reset := none,
      bitTimes := s.line.bitTimes + Config.commandTokenBits }) rfl (fun _ => rfl) nofun).calm (State.Calm.refl _).postAll).law

/-! ### The end of a gap (R29, R50) -/

/-- The engine's next token exists in a round that is not decided (R51, R52, R56, R58, R61). -/
theorem Engine.nextToken_of_round {e : Engine} (hr : e.state.inRound = true)
    (hb : (e.state = .binding ∨ e.state = .confirming) → e.chosen ≠ none ∧ e.candidate ≠ none)
    (hp : e.state = .parking → e.candidate ≠ none) :
    ∃ x, e.nextToken = some x ∧ x.owner = .identification ∧ x.kind.engineState = some e.state := by
  cases hs : e.state with
  | unparking => exact ⟨roundTxn .unpark 0 0, by simp [Engine.nextToken, hs], rfl, rfl⟩
  | seeking => exact ⟨roundTxn .seek 0 0, by simp [Engine.nextToken, hs], rfl, rfl⟩
  | binding =>
    obtain ⟨hch, hcd⟩ := hb (.inl hs)
    obtain ⟨a, ha⟩ := Option.ne_none_iff_exists'.1 hch
    obtain ⟨u, hu⟩ := Option.ne_none_iff_exists'.1 hcd
    exact ⟨roundTxn .assign 63 (assignArgument a u), by simp [Engine.nextToken, hs, ha, hu], rfl, rfl⟩
  | confirming =>
    obtain ⟨a, ha⟩ := Option.ne_none_iff_exists'.1 (hb (.inr hs)).1
    exact ⟨roundTxn .ping (addr6 a) 0, by simp [Engine.nextToken, hs, ha], rfl, rfl⟩
  | parking =>
    obtain ⟨u, hu⟩ := Option.ne_none_iff_exists'.1 (hp hs)
    exact ⟨roundTxn .park 63 (parkArgument u), by simp [Engine.nextToken, hs, hu], rfl, rfl⟩
  | idle | waiting | halted =>
    rw [hs] at hr
    cases hr

theorem Engine.countAttempt_rest (e : Engine) (n : Nat) : (e.countAttempt n).state = e.state ∧ (e.countAttempt n).chosen = e.chosen ∧
    (e.countAttempt n).candidate = e.candidate ∧ (e.countAttempt n).ending = e.ending := by
  unfold Engine.countAttempt
  split <;> exact ⟨rfl, rfl, rfl, rfl⟩

/-- The round's last gap ends it and leaves a free line (R50). -/
theorem State.DirectoryLaw.endRound (hl : s.DirectoryLaw) (hrec : s.line.record = none) {how : RoundEnd}
    (he : s.engine.ending = some how) {l : Line} (hlr : l.record = none) (hg : l.gap = none) :
    (({ s with line := l } : State).endRound how).Quiet := by
  have hnone : ∀ b, (s.entry b).state ≠ .binding := fun b hb => by
    have hend := ((hl.round.1 b).1 hb).2.1
    rw [he] at hend
    cases hend
  obtain ⟨-, -, hgranted, -⟩ := hl.line
  have hround : (({ s with line := l } : State).endRound how).engine.state.inRound = false := by
    unfold State.endRound State.modEngine
    cases how with
    | fouled => rfl
    | plain =>
      dsimp only
      split <;> rfl
  refine ⟨hl.table.congr, hnone, hround, rfl, hl.parked.1, hlr, fun h r hs => ?_, fun h => absurd hg h, fun _ _ _ => hg, hl.pass⟩
  obtain ⟨y, hy, -⟩ := (hgranted h).1 ⟨r, hs⟩
  rw [hrec] at hy
  cases hy

/-- An undecided round goes on with a token of its engine's state (R51). -/
theorem State.DirectoryLaw.roundToken (hl : s.DirectoryLaw) (hrec : s.line.record = none)
    (hr : s.engine.state.inRound = true) (he : s.engine.ending = none) {l : Line} (hlr : l.reset = none) :
    (({ s with line := l } : State).roundGapEnd).DirectoryLaw := by
  obtain ⟨-, -, hgranted, -⟩ := hl.line
  obtain ⟨hbind, hsome, hpark, huid⟩ := hl.round
  obtain ⟨hone, hpast, hopen⟩ := hl.parked
  generalize heng : (if s.engine.state = .unparking then { s.engine with state := .seeking } else s.engine : Engine) = e
  have hkept : (e.state = s.engine.state ∨ (s.engine.state = .unparking ∧ e.state = .seeking)) ∧ e.chosen = s.engine.chosen ∧
      e.candidate = s.engine.candidate ∧ e.ending = s.engine.ending := by
    subst heng
    split
    · next hu => exact ⟨.inr ⟨hu, rfl⟩, rfl, rfl, rfl⟩
    · exact ⟨.inl rfl, rfl, rfl, rfl⟩
  obtain ⟨hstate, hch, hcd, hend⟩ := hkept
  have hbinding : (e.state = .binding ∨ e.state = .confirming) ↔ (s.engine.state = .binding ∨ s.engine.state = .confirming) := by
    rcases hstate with h | ⟨h1, h2⟩
    · rw [h]
    · simp [h1, h2]
  have hparking : e.state = .parking ↔ s.engine.state = .parking := by
    rcases hstate with h | ⟨h1, h2⟩
    · rw [h]
    · simp [h1, h2]
  have hin : e.state.inRound = true := by
    rcases hstate with h | ⟨h1, h2⟩
    · rw [h]
      exact hr
    · rw [h2]
      rfl
  obtain ⟨x, hx, hxo, hxk⟩ := e.nextToken_of_round hin (fun h => by rw [hch, hcd]; exact hsome (hbinding.1 h))
    fun h => by rw [hcd]; exact hpark (hparking.1 h)
  obtain ⟨hcst, hcch, hccd, hcend⟩ := e.countAttempt_rest s.config.retryLimit
  rw [State.roundGapEnd_of_token (s := { s with line := l }) he heng hx]
  refine State.Ready.law ⟨hl.table.congr, ⟨fun a => (hbind a).trans ?_, fun h => ?_, fun h => ?_, fun a ha => ?_⟩, hone, fun h _ => ?_,
    hlr, fun _ => ⟨?_, ?_⟩, fun h => absurd hxo h, fun h ho => ?_, fun h r hs => ?_, fun _ => ?_, hl.pass⟩
  · change _ ↔ ((e.countAttempt _).state = .binding ∨ (e.countAttempt _).state = .confirming) ∧ (e.countAttempt _).ending = none ∧
      (e.countAttempt _).chosen = some a
    rw [hcst, hcend, hcch, hbinding, hend, hch]
  · change (e.countAttempt _).chosen ≠ none ∧ (e.countAttempt _).candidate ≠ none
    rw [hcch, hccd, hch, hcd]
    exact hsome (hbinding.1 (hcst ▸ h))
  · change (e.countAttempt _).candidate ≠ none
    rw [hccd, hcd]
    exact hpark (hparking.1 (hcst ▸ h))
  · change _ = (e.countAttempt _).candidate
    rw [hccd, hcd]
    exact huid a ha
  · rcases hstate with hs | ⟨hs, -⟩
    · refine hpast ?_ he
      rw [← hs, ← hcst]
      exact h
    · exact hopen hs hrec
  · exact hxk.trans (congrArg some hcst.symm)
  · exact hcend.trans (hend.trans he)
  · rw [hxo] at ho
    cases ho
  · obtain ⟨y, hy, -⟩ := (hgranted h).1 ⟨r, hs⟩
    rw [hrec] at hy
    cases hy
  · exact (congrArg EngineState.inRound hcst).trans hin

theorem State.DirectoryLaw.gapEnd (hl : s.DirectoryLaw) {g : Nat}
    (hr : s.line.reset = none) : (s.endGap g).gapEnd.DirectoryLaw := by
  cases hx : s.line.record with
  | some x =>
    obtain ⟨hstands, -⟩ := hl.line.1 hr x hx
    have hgapless : (s.endGap g).DirectoryLaw := by
      refine hl.standing hx hr rfl (m := { s.line with gap := none, bitTimes := s.line.bitTimes + g }) hx hr hstands fun h => absurd rfl h
    rw [State.gapEnd_of_record (s := s.endGap g) hx]
    exact hgapless.nextAttempt hr hx rfl
  | none =>
    cases he : s.engine.state.inRound with
    | false =>
      have hquiet : (s.endGap g).Quiet := (hl.quiet hx he).setLine hx (fun h => absurd rfl h) fun _ _ _ => rfl
      rw [State.gapEnd_of_free (s := s.endGap g) hx he]
      exact hquiet.law.grant
    | true =>
      rw [State.gapEnd_of_round (s := s.endGap g) hx he]
      cases hend : s.engine.ending with
      | some how =>
        rw [State.roundGapEnd_of_ending (s := s.endGap g) hend]
        exact (hl.endRound (l := { s.line with gap := none, bitTimes := s.line.bitTimes + g }) hx hend hx rfl).law.grant
      | none => exact hl.roundToken hx he hend hr

/-! ### The transaction in progress (R79 to R86) -/

theorem State.DirectoryLaw.access_of_stands (hl : s.DirectoryLaw) {x : Txn} (hx : s.line.record = some x) (hr : s.line.reset = none)
    (hs : s.line.state = .burstIn ∨ s.line.state = .burstOut ∨ s.line.state = .receiptWait) : x.owner ≠ .identification := by
  obtain ⟨hstands, hident, -⟩ := hl.line.1 hr x hx
  intro ho
  have hk := (hident ho).1
  have hkind : x.kind = .read ∨ x.kind = .write := by
    rcases hs with hs | hs | hs <;> simp [Txn.standsIn, hs] at hstands
    · exact .inl hstands
    · exact .inr hstands
    · exact .inr hstands
  rcases hkind with h | h <;> rw [h] at hk <;> cases hk

theorem State.DirectoryLaw.tokenEnd (hl : s.DirectoryLaw) {x : Txn} (hx : s.line.record = some x) (hr : s.line.reset = none)
    (hs : s.line.state = .command) : (s.tokenEnd x).DirectoryLaw := by
  have hidle : s.line.state ≠ .idle := by simp [hs]
  by_cases hu : x.kind = .unpark
  · have ho : x.owner = .identification := by
      by_contra hne
      have hacc := ((hl.line.1 hr x hx).2.2 hne).1
      rw [hu] at hacc
      cases hacc
    have hzero : (s.setParked 0).DirectoryLaw :=
      { hl with parked := ⟨Nat.zero_le 1, fun _ _ => rfl, fun _ _ => rfl⟩, uids := hl.uids, line := hl.line, round := hl.round }
    have hend : s.tokenEnd x = (s.setParked 0).toGap Config.gapBits none := by simp only [State.tokenEnd, hu]
    rw [hend]
    exact (hzero.roundGap hx hr ho (fun _ => rfl) _).law hl.pass
  · by_cases hk : x.kind = .seek
    · have hend : s.tokenEnd x = s.toLineState .contention := by simp only [State.tokenEnd, hk]
      rw [hend]
      exact hl.toLineState hx hr hidle (by simp [Txn.standsIn, hk])
    · rw [State.tokenEnd_of_awaiting hk hu]
      exact hl.toLineState hx hr hidle (by simp [Txn.standsIn, hk, hu])

theorem State.DirectoryLaw.accessAnswer (hl : s.DirectoryLaw) {x : Txn} (hx : s.line.record = some x) (hr : s.line.reset = none)
    (hs : s.line.state = .answerWait ∨ s.line.state = .answer) (ho : x.owner ≠ .identification) (j : Judgement) :
    (s.accessAnswer x j).DirectoryLaw := by
  have hidle : s.line.state ≠ .idle := by rcases hs with hs | hs <;> simp [hs]
  unfold State.accessAnswer
  split
  · exact hl.attemptFails hx hr ho rfl _ _
  · exact hl.attemptFails hx hr ho rfl _ _
  · split
    · next hk => exact hl.toLineState hx hr hidle (by simp [Txn.standsIn, hk])
    · next hk => exact hl.toLineState hx hr hidle (by simp [Txn.standsIn, hk])
    · exact hl.finish hx hr ho rfl _ _

theorem State.DirectoryLaw.answerJudged (hl : s.DirectoryLaw) {x : Txn} (hx : s.line.record = some x) (hr : s.line.reset = none)
    (hs : s.line.state = .answerWait ∨ s.line.state = .answer) (j : Judgement) : (s.answerJudged x j).DirectoryLaw := by
  unfold State.answerJudged
  split
  · next ho => exact hl.roundAnswer hx hr ho hs j
  · next ho => exact hl.accessAnswer hx hr hs ho j

theorem TxnEffect.law {x : Txn} (he : TxnEffect s x t) (hl : s.DirectoryLaw) (hx : s.line.record = some x) (hr : s.line.reset = none) :
    t.DirectoryLaw := by
  cases he with
  | tokenEnded hs => exact hl.tokenEnd hx hr hs
  | receipt j hs =>
    have ho := hl.access_of_stands hx hr (.inr (.inr hs))
    unfold State.receiptIs
    split <;> exact hl.finish hx hr ho rfl _ _
  | failed hs => exact hl.attemptFails hx hr (hl.access_of_stands hx hr (.inl hs)) rfl _ _
  | burst data ok hs =>
    have ho := hl.access_of_stands hx hr (.inl hs)
    unfold State.burstJudged
    split
    · exact hl.finish hx hr ho (y := { x with buffer := data }) rfl _ _
    · exact hl.attemptFails hx hr ho rfl _ _
  | burstSent hs =>
    refine hl.toLineState hx hr (by simp [hs]) ?_
    simpa [Txn.standsIn, hs] using (hl.line.1 hr x hx).1
  | contention u hs => exact hl.takeContention hx hr hs u

/-! ### Expiries (R11, R110, R128, R129, R138, R139) -/

theorem State.leaveQuarantine_eq (s : State) (a : Addr) :
    s.leaveQuarantine a = ((s.freeRecorded a).bumpSerial.post (.notice (.freed a true))).grant := rfl

theorem State.endLease_calm (s : State) (a : Addr) : s.Calm (s.endLease a) := by
  unfold State.endLease
  split
  · next c hc => exact ((State.Calm.refl s).handOver (by simp [hc])).postAll
  · exact .refl s

theorem State.endWait_calm (s : State) (a : Addr) (h : HostId) : s.Calm (s.endWait a h) := by
  unfold State.endWait
  split
  · next c hc =>
    split
    · exact ((State.Calm.refl s).setEntry (.setClaim fun _ => .inl (by simp [hc]))).post
    · exact .refl s
  · exact .refl s

/-- The interval timer's expiry ends a pass that has nothing to ping (R138 to R140). -/
theorem State.DirectoryLaw.sweepDue (hl : s.DirectoryLaw) : s.sweepDue.DirectoryLaw := by
  have hkept {w : Sweep} : s.Kept { s with sweep := w } :=
    ⟨fun _ => .rfl, fun _ _ => rfl, fun _ h => ⟨h, .rfl⟩, fun _ => rfl, rfl, .refl _, rfl, fun _ => rfl⟩
  unfold State.sweepDue
  dsimp only
  refine State.DirectoryLaw.grant ?_
  split
  · next ha =>
    exact hl.kept (hkept (w := { s.sweep with timer := some (s.time + s.config.sweepInterval) })) hl.table.congr hl.pass
  · unfold State.beginPass
    have hpass := State.endIdlePass_passLaw { s with sweep := { timer := some (s.time + s.config.sweepInterval), active := true, cursor := 0 } }
    obtain ⟨w, hw⟩ := State.endIdlePass_rest { s with sweep := { timer := some (s.time + s.config.sweepInterval), active := true, cursor := 0 } }
    rw [hw] at hpass
    exact hw ▸ hl.kept hkept hl.table.congr hpass

theorem ExpiryEffect.law (hx : ExpiryEffect s t) (hl : s.DirectoryLaw) : t.DirectoryLaw := by
  cases hx with
  | quarantine a hs =>
    rw [State.leaveQuarantine_eq]
    exact ((State.freeRecorded_calm hs hl.inRound_of_ending).bumpSerial.post.law hl).grant
  | lease a => exact (s.endLease_calm a).law hl
  | wait a h => exact (s.endWait_calm a h).law hl
  | poll a =>
    unfold State.pollDueAt
    refine State.DirectoryLaw.grant (((State.Calm.refl s).setEntry ?_).law hl)
    exact ⟨rfl, rfl, rfl, rfl, rfl, rfl, .inl, by simp⟩
  | sweep => exact hl.sweepDue

/-! ### Every event -/

theorem State.resetEnded_law (s : State) (straps : BitVec 4) : ((s.powerOn straps).beginLineReset .powerOn []).DirectoryLaw := by
  refine State.DirectoryLaw.beginLineReset (State.Quiet.law ?_) .powerOn []
  have hreset : State.reset.Quiet := State.reset_directoryLaw.quiet rfl rfl
  refine ⟨hreset.table.congr, hreset.binding, rfl, rfl, hreset.parked, rfl, fun h r hs => ?_, fun h => absurd rfl h, nofun, nofun⟩
  rw [State.powerOn_port] at hs
  cases hs

theorem Event.law {c : Instr} (he : Event s c t) (hl : s.DirectoryLaw) : t.DirectoryLaw := by
  have hrefl := State.Calm.refl s
  cases he with
  | ignored => exact hl
  | resetAsserted => exact { hl with uids := hl.uids, line := hl.line, round := hl.round }
  | resetEnded straps => exact s.resetEnded_law straps
  | exchanged c bytes hr hh hx => exact hx.calm.giveBack.law hl
  | pinFell c h => exact hrefl.setHeld.law hl
  | portFell c h => exact (s.resetPort_calm h).giveBack.setHeld.law hl
  | pinRose c h => exact hrefl.setHeld.law hl
  | took c hq hx =>
    have htaken {h : HostId} {rest : List Request} : (s.taken h rest).DirectoryLaw := (hrefl.taken (h := h) (rest := rest)).law hl
    rcases hx.calm htaken.inRound_of_ending with k | ⟨u, k, rfl⟩ | rfl
    · exact k.law htaken
    · exact (k.law htaken).grant
    · exact htaken.requestLineReset _ _
  | configured o b hq hc hm hx => exact (hx.calm.answer).law (hrefl.taken.law hl)
  | resetting c hr hlr hx => exact hx.law hl hlr
  | gapEnded c g hr hg hs hn => exact hl.gapEnd hn
  | startSent c n => exact hrefl.setStart.addBits.law hl
  | onLine c n hr hc hx he => exact he.law (hrefl.addBits.law hl) hx (hl.reset_none hx hc)
  | answerMissed c n hr hc hx hs => exact (hrefl.addBits.law hl).answerJudged hx (hl.reset_none hx hc) (.inl hs) _
  | answerCame k bits n hr hc hx hs => exact (hrefl.addBits.law hl).answerJudged hx (hl.reset_none hx hc) hs _
  | joinReported c hr hj =>
    have hgrant := (hrefl.setWanted hl.inRound_of_ending).law hl |>.grant
    unfold State.reportJoin
    dsimp only
    split
    · exact (State.Calm.refl _).setStart.law hgrant
    · exact hgrant
  | expired c hr hn hx => exact hx.law (hrefl.elapseTo.law hl)

/-- A property that every command keeps, and that neither the waiting queue nor a step of the time base touches, is kept by
every step. -/
theorem keptByStep_of_event {P : State → Prop} (hqueue : ∀ s rest, P s → P { s with pending := rest })
    (hevent : ∀ s t c, Event s c t → P s → P t) (htick : ∀ s, s.dueExpiry = none → P s → P s.tick) : KeptByStep P := by
  intro s t hp ht
  unfold step at ht
  split at ht
  · split at ht
    · exact hevent _ _ _ (exec_event ht) hp
    · next hd =>
      obtain rfl := Host.Outcome.next.inj ht
      exact htick s hd hp
  · exact hevent _ _ _ (exec_event ht) (hqueue s _ hp)

/-- A step of the time base is read by none of the laws. -/
theorem State.DirectoryLaw.tick (hl : s.DirectoryLaw) : s.tick.DirectoryLaw := by
  unfold State.tick
  split
  · exact hl
  · exact { hl with uids := hl.uids, line := hl.line, round := hl.round }

/-- Settles O57: each event keeps the laws; the queue and the time base are read by none of them. -/
theorem directoryLawIsKept : Obligations.DirectoryLawIsKept := by
  refine keptByStep_of_event (fun s rest hl => ?_) (fun s t c he hl => he.law hl) fun s _ hl => hl.tick
  exact { hl with uids := hl.uids, line := hl.line, round := hl.round }

end

end Sys2Proof.Machine
end

section
/-! SUPPORT. What the operations of the directory and of the engine leave unchanged, and the free line without a waiting candidate
(R70). -/

namespace Sys2Proof.Machine

set_option Elab.async false

open Sys2Proof

/-! ### Changes within the directory and the engine (Chapters 1 and 3) -/

/-- Only the directory and the engine change. -/
def State.Within (s t : State) : Prop := ∃ d e, t = { s with dir := d, engine := e }

section
variable {s t u : State}

theorem State.Within.refl (s : State) : s.Within s := ⟨s.dir, s.engine, rfl⟩

theorem State.Within.trans (h : s.Within t) (k : t.Within u) : s.Within u := by
  obtain ⟨d, e, rfl⟩ := h
  obtain ⟨d', e', rfl⟩ := k
  exact ⟨d', e', rfl⟩

theorem State.Within.line (k : s.Within t) : t.line = s.line := by
  obtain ⟨d, e, rfl⟩ := k
  rfl

theorem State.Within.sweep (k : s.Within t) : t.sweep = s.sweep := by
  obtain ⟨d, e, rfl⟩ := k
  rfl

theorem State.Within.port (k : s.Within t) (h : HostId) : t.port h = s.port h := by
  obtain ⟨d, e, rfl⟩ := k
  rfl

theorem State.Within.time (k : s.Within t) : t.time = s.time := by
  obtain ⟨d, e, rfl⟩ := k
  rfl

theorem State.Within.inReset (k : s.Within t) : t.inReset = s.inReset := by
  obtain ⟨d, e, rfl⟩ := k
  rfl

section
variable (k : s.Within t)

include k

theorem State.Within.setEntry {a : Addr} {e : Entry} : s.Within (t.setEntry a e) := k.trans ⟨_, t.engine, rfl⟩

theorem State.Within.setRecalls {l : List Recall} : s.Within (t.setRecalls l) := k.trans ⟨_, t.engine, rfl⟩

theorem State.Within.setParked {n : Nat} : s.Within (t.setParked n) := k.trans ⟨_, t.engine, rfl⟩

theorem State.Within.bumpSerial : s.Within t.bumpSerial := k.trans ⟨_, t.engine, rfl⟩

theorem State.Within.modEngine {f : Engine → Engine} : s.Within (t.modEngine f) := k.trans ⟨t.dir, _, rfl⟩

theorem State.Within.decideRound {how : RoundEnd} : s.Within (t.decideRound how) := k.modEngine

theorem State.Within.setWanted : s.Within t.setWanted := k.trans ⟨t.dir, _, rfl⟩

theorem State.Within.wantIfParked : s.Within t.wantIfParked := by
  unfold State.wantIfParked
  split
  · exact k.setWanted
  · exact k

theorem State.Within.freeRecorded {a : Addr} : s.Within (t.freeRecorded a) := k.setRecalls.setEntry.wantIfParked

theorem State.Within.intoLost {a : Addr} : s.Within (t.intoLost a).1 := by
  unfold State.intoLost
  dsimp only
  split
  · exact k.setEntry.bumpSerial.freeRecorded
  · exact k.setEntry.bumpSerial

theorem State.Within.countMiss {a : Addr} {n : Nat} : s.Within (t.countMiss a n).1 := by
  unfold State.countMiss
  dsimp only
  split
  · split
    · exact k.setEntry.bumpSerial
    · exact k.setEntry
  · exact k.intoLost

theorem State.Within.clearMiss {a : Addr} : s.Within (t.clearMiss a) := by
  unfold State.clearMiss
  dsimp only
  split
  · exact k.setEntry.bumpSerial
  · exact k.setEntry

theorem State.Within.applyOutcome {a : Addr} {o : TxnOutcome} {n : Nat} : s.Within (t.applyOutcome a o n).1 := by
  unfold State.applyOutcome
  split
  · split
    · exact k.clearMiss
    · exact k.countMiss
    · exact k.countMiss
    all_goals exact k
  · exact k

theorem State.Within.directoryTakes {x : Txn} {o : TxnOutcome} : s.Within (t.directoryTakes x o).1 := by
  unfold State.directoryTakes
  split
  · exact k.applyOutcome
  · exact k

theorem State.Within.createDeferred {h : HostId} {x : Txn} : s.Within (t.createDeferred h x) := by
  unfold State.createDeferred
  split
  · exact k.setEntry
  · exact k

theorem State.Within.takeFree {a : Addr} {u : Uid} : s.Within (t.takeFree a u) := k.setEntry.bumpSerial

theorem State.Within.chooseAddress {u : Uid} : s.Within (t.chooseAddress u).1 := by
  unfold State.chooseAddress
  split
  · split
    · exact k.setEntry.bumpSerial
    · exact k.setEntry.bumpSerial
  · split
    · exact k.setRecalls.takeFree
    · split
      · exact k.takeFree
      · split
        · exact k.setRecalls.takeFree
        · exact k

theorem State.Within.contentionResult {u : Uid} : s.Within (t.contentionResult u).1 := by
  have hchosen := k.chooseAddress (u := u)
  unfold State.contentionResult
  split
  · dsimp only
    exact k.decideRound
  · split
    · dsimp only
      exact k.decideRound
    · split
      all_goals
        next heq =>
          rw [heq] at hchosen
          dsimp only at hchosen ⊢
          exact hchosen.modEngine

theorem State.Within.recordFailure {u : Uid} : s.Within (t.recordFailure u).1 := by
  unfold State.recordFailure
  generalize (if t.engine.lastFailed = some u then t.engine.failures + 1 else 1) = n
  dsimp only
  split
  · dsimp only
    exact k.modEngine.setWanted
  · dsimp only
    exact k.modEngine

theorem State.Within.completeBind {a : Addr} {c : Option Byte} : s.Within (t.completeBind a c).1 := by
  unfold State.completeBind State.bindDone
  dsimp only
  exact k.setEntry.bumpSerial.modEngine.setWanted.decideRound

theorem State.Within.failBind {a : Addr} : s.Within (t.failBind a).1 := by
  unfold State.failBind State.bindLost
  dsimp only
  exact k.intoLost.recordFailure.decideRound

theorem State.Within.decidePark {j : Judgement} : s.Within (t.decidePark j).1 := by
  unfold State.decidePark
  split
  · unfold State.parkAccepted
    dsimp only
    split
    · exact k.setParked.modEngine.decideRound
    · exact k.setParked.modEngine.setWanted.decideRound
  all_goals
    split
    · exact k
    · unfold State.failPark
      dsimp only
      exact k.recordFailure.decideRound

theorem State.Within.engineDecides {x : TxnKind} {j : Judgement} : s.Within (t.engineDecides x j).1 := by
  unfold State.engineDecides
  split
  · unfold State.decideAssign
    split
    · exact k.completeBind
    all_goals
      dsimp only
      exact k.modEngine
  · unfold State.decideConfirm
    split
    · exact k.completeBind
    · split
      · dsimp only
        exact k.modEngine
      · exact k.failBind
  · exact k.decidePark
  · exact k

end

/-! ### A line in use -/

theorem State.endIdlePass_line (s : State) : s.endIdlePass.line = s.line := by
  obtain ⟨w, hw⟩ := s.endIdlePass_rest
  rw [hw]

theorem State.advanceSweep_line (s : State) (a : Addr) : (s.advanceSweep a).line = s.line := by
  obtain ⟨w, hw⟩ := s.advanceSweep_rest a
  rw [hw]

/-- A delivery leaves the line as it is (R87, R89). -/
theorem State.deliver_line (s : State) (x : Txn) (o : TxnOutcome) : (s.deliver x o).line = s.line := by
  have htakes : (s.directoryTakes x o).1.line = s.line := (State.Within.refl s).directoryTakes.line
  unfold State.deliver
  split
  · unfold State.deliverHost
    dsimp only
    split
    · simp only [State.postAll_line, State.endIdlePass_line]
      exact (State.Within.refl _).createDeferred.line.trans htakes
    · simp only [State.postAll_line, State.endIdlePass_line]
      exact htakes
  · unfold State.deliverPoller
    dsimp only
    split
    · split
      · simp only [State.postAll_line, State.endIdlePass_line]
        exact htakes
      · simp only [State.postAll_line, State.endIdlePass_line]
        exact htakes
    · simp only [State.postAll_line]
      exact htakes
  · unfold State.deliverSweep
    dsimp only
    split
    · simp only [State.postAll_line, State.endIdlePass_line, State.advanceSweep_line]
      exact htakes
    · simp only [State.postAll_line]
      exact htakes
  · rfl

/-- A line in a gap, with a transaction or in a line reset is not free (R70). -/
theorem State.busy_of_gap (h : s.line.gap ≠ none) : s.lineFree = false := by
  by_contra hf
  exact h (State.lineFree_iff.1 (by simpa using hf)).2.2.1

theorem State.busy_of_record (h : s.line.record ≠ none) : s.lineFree = false := by
  by_contra hf
  exact h (State.lineFree_iff.1 (by simpa using hf)).2.2.2.1

theorem State.busy_of_reset (h : s.line.reset ≠ none) : s.lineFree = false := by
  by_contra hf
  exact h (State.lineFree_iff.1 (by simpa using hf)).2.2.2.2

theorem State.busy_of_round (hl : s.DirectoryLaw) (h : s.engine.state.inRound = true) : s.lineFree = false := by
  by_contra hf
  have hq := (hl.quiet_of_free (by simpa using hf)).engine
  rw [h] at hq
  cases hq

theorem State.NoWaitOnFreeLine.of_busy (h : s.lineFree = false) : s.NoWaitOnFreeLine := fun hf => by
  rw [h] at hf
  cases hf

theorem State.finish_busy (s : State) (x : Txn) (o : TxnOutcome) (g : Nat) : (s.finish x o g).lineFree = false := by
  refine State.busy_of_gap ?_
  rw [State.finish, State.deliver_line]
  exact Option.some_ne_none g

theorem State.attemptFails_busy (s : State) (x : Txn) (m : FailMark) (g : Nat) : (s.attemptFails x m g).lineFree = false := by
  unfold State.attemptFails
  dsimp only
  split
  · exact State.busy_of_gap (Option.some_ne_none g)
  · exact State.finish_busy ..

theorem State.roundGap_busy {ps : List Post} {g : Nat} (k : (s.toGap g none).Within t) : (t.endIdlePass.postAll ps).lineFree = false := by
  refine State.busy_of_gap ?_
  rw [State.postAll_line, State.endIdlePass_line, k.line]
  exact Option.some_ne_none g

theorem State.answerJudged_busy {x : Txn} (hx : s.line.record = some x) (j : Judgement) : (s.answerJudged x j).lineFree = false := by
  have hrecord {l : LineState} : (s.toLineState l).lineFree = false := State.busy_of_record (by simp [State.toLineState, hx])
  unfold State.answerJudged
  split
  · exact State.roundGap_busy (State.Within.refl _).engineDecides
  · unfold State.accessAnswer
    split
    · exact State.attemptFails_busy ..
    · exact State.attemptFails_busy ..
    · split
      · exact hrecord
      · exact hrecord
      · exact State.finish_busy ..

/-- A transaction's event leaves it on the line, or a gap (R79). -/
theorem TxnEffect.busy {x : Txn} (he : TxnEffect s x t) (hx : s.line.record = some x) : t.lineFree = false := by
  have hrecord {l : LineState} : (s.toLineState l).lineFree = false := State.busy_of_record (by simp [State.toLineState, hx])
  cases he with
  | tokenEnded =>
    unfold State.tokenEnd
    split
    · exact State.busy_of_gap (Option.some_ne_none _)
    · exact hrecord
    · exact hrecord
  | receipt j =>
    unfold State.receiptIs
    split <;> exact State.finish_busy ..
  | failed => exact State.attemptFails_busy ..
  | burst data ok =>
    unfold State.burstJudged
    split
    · exact State.finish_busy ..
    · exact State.attemptFails_busy ..
  | burstSent => exact hrecord
  | contention u => exact State.roundGap_busy (State.Within.refl _).contentionResult

/-- A line reset's phases keep it in progress, and a gap follows the last (R171). -/
theorem ResetEffect.busy {lr : LineReset} (hx : ResetEffect s lr t) : t.lineFree = false := by
  cases hx with
  | cut hp =>
    refine State.busy_of_reset ?_
    rw [State.cut_eq]
    split
    · rw [State.deliver_line]
      exact Option.some_ne_none _
    · exact Option.some_ne_none _
  | held n hp => exact State.busy_of_reset (Option.some_ne_none _)
  | waited n hp => exact State.busy_of_reset (Option.some_ne_none _)
  | sent hp =>
    refine State.busy_of_gap ?_
    unfold State.resetSent
    dsimp only
    rw [State.postAll_line]
    exact Option.some_ne_none _

theorem State.requestLineReset_busy (s : State) (h : HostId) (tag : Tag) : (s.requestLineReset h tag).lineFree = false := by
  refine State.busy_of_reset ?_
  unfold State.requestLineReset
  split
  · exact Option.some_ne_none _
  · rw [State.beginLineReset_eq, State.postAll_line]
    exact Option.some_ne_none _

/-! ### A grant serves whoever waits (R70, R73 to R76) -/

/-- A waiting system side is granted a token (R73, R74). -/
theorem State.grantSystem_busy (hw : s.systemWaits = true) : s.grantSystem.lineFree = false := by
  have hattempt {t : State} {x : Txn} : (t.beginAttempt x).lineFree = false := State.busy_of_record (Option.some_ne_none _)
  by_cases he : s.engine.state = .waiting
  · rw [State.grantSystem_of_waiting he]
    by_cases hp : s.dir.parked = 0
    · rw [State.sendRoundToken_of (t := roundTxn .seek 0 0) (by simp [State.startRound, State.modEngine, Engine.nextToken, hp])]
      exact hattempt
    · rw [State.sendRoundToken_of (t := roundTxn .unpark 0 0) (by simp [State.startRound, State.modEngine, Engine.nextToken, hp])]
      exact hattempt
  · cases hd : s.duePoll with
    | some a =>
      rw [State.grantSystem_of_poll he hd]
      exact hattempt
    | none =>
      cases hs : s.sweepNext with
      | some a =>
        rw [State.grantSystem_of_sweep he hd hs]
        exact hattempt
      | none => simp [State.systemWaits, he, hd, hs] at hw

/-- The choice serves a candidate, or finds none (R73 to R76). -/
theorem State.choose_noWait {n : Nat} (hn : s.candidates.card < n) : (State.choose n s).NoWaitOnFreeLine := by
  induction n generalizing s with
  | zero => omega
  | succ n ih =>
    cases hh : s.nextHost with
    | none =>
      cases hw : s.systemWaits with
      | true =>
        simp only [State.choose, hh, hw, if_true]
        exact .of_busy (State.grantSystem_busy hw)
      | false =>
        simp only [State.choose, hh, hw, Bool.false_eq_true, if_false]
        exact fun _ => ⟨hw, State.nextHost_eq_none_iff.1 hh⟩
    | some h =>
      cases hside : s.systemWaits && s.sched.side == .system with
      | true =>
        simp only [State.choose, hh, hside, if_true]
        exact .of_busy (State.grantSystem_busy (Bool.and_eq_true_iff.1 hside).1)
      | false =>
        have hc := State.candidate_of_nextHost hh
        obtain ⟨r, hr⟩ := Port.candidate_iff.1 hc
        rw [State.choose_host n hh hr hside]
        cases s.checkAccess h r.handle with
        | pass a => exact .of_busy (State.busy_of_record (Option.some_ne_none _))
        | stale | held g | deferred =>
          refine ih ?_
          rw [State.candidates_refused]
          have hcard := Finset.card_erase_lt_of_mem (s := (s.setRotation h).candidates) (State.mem_candidates.2 hc)
          have hsame : (s.setRotation h).candidates = s.candidates := rfl
          rw [hsame] at hcard ⊢
          omega

theorem State.grant_noWait (s : State) : s.grant.NoWaitOnFreeLine := by
  unfold State.grant
  split
  · refine State.choose_noWait ?_
    have hmax := Finset.card_le_univ s.candidates
    have hfour : Fintype.card HostId = 4 := rfl
    omega
  · next hf => exact .of_busy (by simpa using hf)

/-! ### Changes that neither free the line nor bring a candidate -/

/-- What of an entry makes it a candidate: whether it is bound, and the phase of its deferred record (R71). -/
def Entry.calls (e : Entry) : Bool × Option PollPhase := (e.bound, e.deferred.map fun d => d.phase)

/-- The line is not freed and no candidate comes. -/
structure State.Still (s t : State) : Prop where
  line : t.lineFree = true → s.lineFree = true
  system : t.systemWaits = true → s.systemWaits = true
  host : ∀ h, (t.port h).candidate = true → (s.port h).candidate = true

theorem State.Still.refl (s : State) : s.Still s := ⟨id, id, fun _ => id⟩

theorem State.Still.trans (h : s.Still t) (k : t.Still u) : s.Still u :=
  ⟨h.line ∘ k.line, h.system ∘ k.system, fun g => h.host g ∘ k.host g⟩

theorem State.Still.noWait (k : s.Still t) (h : s.NoWaitOnFreeLine) : t.NoWaitOnFreeLine := fun hf => by
  obtain ⟨hs, hp⟩ := h (k.line hf)
  refine ⟨?_, fun g => ?_⟩
  · by_contra hw
    rw [k.system (by simpa using hw)] at hs
    cases hs
  · by_contra hc
    have hp := hp g
    rw [k.host g (by simpa using hc)] at hp
    cases hp

theorem Entry.calls_eq {e f : Entry} (h : f.calls = e.calls) : f.bound = e.bound ∧ (f.deferred = none ↔ e.deferred = none) ∧
    ((∃ d, f.deferred = some d ∧ d.phase = .due) ↔ ∃ d, e.deferred = some d ∧ d.phase = .due) := by
  simp only [Entry.calls, Prod.mk.injEq] at h
  obtain ⟨hb, hd⟩ := h
  have hdue (g : Entry) : (∃ d, g.deferred = some d ∧ d.phase = .due) ↔ (g.deferred.map fun d => d.phase) = some .due := by
    rw [Option.map_eq_some_iff]
  refine ⟨hb, ?_, ?_⟩
  · rw [← Option.map_eq_none_iff (f := fun d : Deferred => d.phase), hd, Option.map_eq_none_iff]
  · rw [hdue, hdue, hd]

theorem State.Still.of_reads (he : ∀ a, (t.entry a).calls = (s.entry a).calls) (hs : t.engine.state = s.engine.state := by rfl)
    (hl : t.line.traffic = s.line.traffic := by rfl) (hr : t.inReset = s.inReset := by rfl)
    (hp : ∀ h, (t.port h).candidate = true → (s.port h).candidate = true := by exact fun _ => id)
    (ha : t.sweep.active = s.sweep.active := by rfl) (hc : t.sweep.cursor = s.sweep.cursor := by rfl) : s.Still t where
  line hf := by
    obtain ⟨hlst, hlg, -⟩ := Line.traffic_eq hl
    have hrec := Line.record_none_iff hl
    have hreset := Line.reset_none_iff hl
    rw [State.lineFree_iff, hlst, hlg, hrec, hreset, hr] at hf
    exact State.lineFree_iff.2 hf
  system hw := by
    simpa only [State.systemWaits_iff, hs, ha, hc, fun a => (Entry.calls_eq (he a)).1, fun a => (Entry.calls_eq (he a)).2.1,
      fun a => (Entry.calls_eq (he a)).2.2] using hw
  host := hp

section
variable (k : s.Still t)

include k

theorem State.Still.setPort {h : HostId} {p : Port} (hp : p.candidate = true → (t.port h).candidate = true) : s.Still (t.setPort h p) :=
  k.trans (.of_reads (fun _ => rfl) (hp := fun g => by
    rw [State.port_setPort]
    split
    · next hg => exact hg ▸ hp
    · exact id))

theorem State.Still.setPort_of_slot {h : HostId} {p : Port} (hp : p.slot = (t.port h).slot) : s.Still (t.setPort h p) :=
  k.setPort (by unfold Port.candidate; rw [hp]; exact id)

theorem State.Still.giveBack {h : HostId} {bs : List Byte} : s.Still (t.giveBack h bs) := k.setPort_of_slot rfl

theorem State.Still.setHeld {h : HostId} {b : Bool} : s.Still (t.setHeld h b) := k.setPort_of_slot rfl

theorem State.Still.taken {h : HostId} {rest : List Request} : s.Still (t.taken h rest) := k.setPort_of_slot rfl

theorem State.Still.postAll {ps : List Post} : s.Still (t.postAll ps) :=
  k.trans (.of_reads (fun a => by rw [State.postAll_entry]) (by simp) (by simp) (by simp)
    (fun h => by unfold Port.candidate; rw [State.postAll_port_slot]; exact id) (by simp) (by simp))

theorem State.Still.post {p : Post} : s.Still (t.post p) := k.postAll (ps := [p])

theorem State.Still.answer {h : HostId} {r : Request} {o : ReplyOutcome} {b : ReplyBody} : s.Still (t.answer h r o b) := k.post

theorem State.Still.answerClaim {h : HostId} {r : Request} {o : ReplyOutcome} {b : ClaimBody} : s.Still (t.answerClaim h r o b) := by
  have hfree : s.Still (t.useFree r.body.length) := by
    unfold State.useFree
    split
    · exact k.trans (.of_reads fun _ => rfl)
    · exact k
  exact hfree.answer

theorem State.Still.setEntry {a : Addr} {e : Entry} (he : e.calls = (t.entry a).calls) : s.Still (t.setEntry a e) :=
  k.trans (.of_reads fun b => by
    rw [State.entry_setEntry]
    split
    · next hb => rw [hb, he]
    · rfl)

theorem State.Still.withClaim {a : Addr} {c : Option Claim} : s.Still (t.setEntry a { t.entry a with claim := c }) := k.setEntry rfl

theorem State.Still.handOver {a : Addr} {ws : List WaitItem} : s.Still (t.handOver a ws).1 := k.withClaim

theorem State.Still.addBits {n : Nat} : s.Still (t.addBits n) := k.trans (.of_reads fun _ => rfl)

theorem State.Still.setStart {b : StartBit} : s.Still (t.setStart b) := k.trans (.of_reads fun _ => rfl)

theorem State.Still.elapseTo {n : Nat} : s.Still (t.elapseTo n) := k.trans (.of_reads fun _ => rfl)

end

/-! ### The events (R70) -/

theorem State.portCleared_still (s : State) (h : HostId) : s.Still (s.portCleared h) := by
  have hline := (s.portCleared_calm h).kept.traffic
  have hself := s.portCleared_port_self h
  have hne := fun g (hg : g ≠ h) => s.portCleared_port_ne h hg
  have hentry (a : Addr) : ((s.portCleared h).entry a).calls = (s.entry a).calls := by
    rw [s.portCleared_entry h a]
    refine Prod.ext rfl ?_
    simp only [Entry.calls, Option.map_map]
    refine congrArg (Option.map · (s.entry a).deferred) (funext fun d => ?_)
    simp only [Function.comp]
    split <;> rfl
  obtain ⟨es, hs⟩ := s.portCleared_rest (h := h)
  refine .of_reads hentry (by rw [hs]; rfl) hline (by rw [hs]; rfl) (fun g => ?_) (by rw [hs]; rfl) (by rw [hs]; rfl)
  by_cases hg : g = h
  · rw [hg, hself, Port.afterReset, Port.candidate, Port.candidate]
    rcases (s.port h).slot with _ | ⟨r, _ | _⟩ <;> simp [Option.filter]
  · rw [hne g hg]
    exact id

theorem State.resetPort_still (s : State) (h : HostId) : s.Still (s.resetPort h) := by
  rw [State.resetPort_eq]
  exact (s.portCleared_still h).postAll

theorem ExchangeEffect.still {h : HostId} (hx : ExchangeEffect s h t) : s.Still t := by
  have hrefl := State.Still.refl s
  cases hx with
  | nothing => exact hrefl
  | accepted => exact hrefl.setPort_of_slot rfl
  | fetched i rest =>
    refine hrefl.setPort_of_slot ?_
    unfold Port.fetched
    split <;> rfl
  | cancelled tag =>
    generalize hu : (s.cancelled h tag).1 = u
    cases hu ▸ s.cancelled_effect h tag with
    | queued => exact hrefl.setPort_of_slot rfl
    | slotted => exact hrefl.setPort (by simp [Port.candidate, Port.unowe])
    | waiting =>
      refine State.Still.setPort_of_slot (.of_reads fun a => ?_) rfl
      rw [State.entry_mapEntries]
      rfl
    | nothing => exact hrefl
  | portReset => exact s.resetPort_still h

theorem Configured.still (hx : Configured s t) : s.Still t := by
  cases hx with
  | store f => exact .of_reads fun _ => rfl
  | sweep v => exact .of_reads fun _ => rfl
  | missLimit v hv =>
    have hrest : ∃ d, (s.modConfig fun p => { p with missLimit := v }).applyMissLimit v =
        { s with config := { s.config with missLimit := v }, dir := d } := by
      unfold State.applyMissLimit
      dsimp only
      split <;> exact ⟨_, rfl⟩
    have hentry (a : Addr) : (((s.modConfig fun p => { p with missLimit := v }).applyMissLimit v).entry a).calls = (s.entry a).calls := by
      obtain ⟨hb, -, hd⟩ := (s.entry a).lowerMiss_bound hv.1
      rw [State.applyMissLimit_entry]
      change ((s.entry a).lowerMiss v).calls = _
      rw [Entry.calls, hb, hd, Entry.calls]
    obtain ⟨d, hd⟩ := hrest
    rw [hd] at hentry ⊢
    exact .of_reads hentry

/-- A take that neither grants nor begins a line reset brings no candidate (R70, R154). -/
theorem TakeEffect.noWait {h : HostId} {r : Request} (hx : TakeEffect s h r t) (hn : s.NoWaitOnFreeLine) : t.NoWaitOnFreeLine := by
  have hrefl := State.Still.refl s
  cases hx with
  | replied o b => exact hrefl.answer.noWait hn
  | repliedClaim o b => exact hrefl.answerClaim.noWait hn
  | forgot => exact (forgetRequest h r s).grant_noWait
  | slotted k => exact (s.setSlot h (some ⟨lineRequestOf k r, false⟩)).grant_noWait
  | enumerated o b => exact (s.enumerated.answer h r o b).grant_noWait
  | claimed | renewed => exact hrefl.withClaim.answerClaim.noWait hn
  | waits => exact hrefl.withClaim.noWait hn
  | handedOver => exact hrefl.handOver.answerClaim.postAll.noWait hn
  | subscribed m o b => exact (hrefl.setPort_of_slot (h := h) (p := { s.port h with mask := m }) rfl).answer.noWait hn
  | lineReset => exact .of_busy (s.requestLineReset_busy _ _)

theorem ExpiryEffect.noWait (hx : ExpiryEffect s t) (hn : s.NoWaitOnFreeLine) : t.NoWaitOnFreeLine := by
  have hrefl := State.Still.refl s
  cases hx with
  | quarantine a =>
    rw [State.leaveQuarantine_eq]
    exact State.grant_noWait ((s.freeRecorded a).bumpSerial.post (.notice (.freed a true)))
  | poll a => exact State.grant_noWait (s.setEntry a _)
  | sweep =>
    unfold State.sweepDue
    exact State.grant_noWait _
  | lease a =>
    unfold State.endLease
    split
    · exact hrefl.handOver.postAll.noWait hn
    · exact hn
  | wait a h =>
    unfold State.endWait
    split
    · split
      · exact hrefl.withClaim.post.noWait hn
      · exact hn
    · exact hn

/-- The end of a gap is followed by a token or a grant (R29, R50, R70). -/
theorem State.gapEnd_noWait (hl : s.gapEnd.DirectoryLaw) : s.gapEnd.NoWaitOnFreeLine := by
  cases hx : s.line.record with
  | some x =>
    rw [State.gapEnd_of_record hx]
    exact .of_busy (State.busy_of_record (Option.some_ne_none _))
  | none =>
    cases he : s.engine.state.inRound with
    | false =>
      rw [State.gapEnd_of_free hx he]
      exact s.grant_noWait
    | true =>
      rw [State.gapEnd_of_round hx he] at hl ⊢
      cases hend : s.engine.ending with
      | some how =>
        rw [State.roundGapEnd_of_ending hend]
        exact State.grant_noWait _
      | none =>
        refine .of_busy (State.busy_of_round hl ?_)
        have hsend (t : State) (ht : t.engine.state.inRound = true) : t.sendRoundToken.engine.state.inRound = true := by
          unfold State.sendRoundToken
          split
          · exact (congrArg EngineState.inRound (t.engine.countAttempt_rest _).1).trans ht
          · exact ht
        rw [State.roundGapEnd, hend]
        refine hsend _ ?_
        change (if s.engine.state = .unparking then { s.engine with state := .seeking } else s.engine : Engine).state.inRound = true
        split
        · rfl
        · exact he

theorem Event.noWait {c : Instr} (he : Event s c t) (hl : s.DirectoryLaw) (hn : s.NoWaitOnFreeLine) : t.NoWaitOnFreeLine := by
  have hrefl := State.Still.refl s
  have hlaw := he.law hl
  cases he with
  | ignored => exact hn
  | resetAsserted => exact .of_busy rfl
  | resetEnded straps =>
    refine .of_busy (State.busy_of_reset ?_)
    rw [State.beginLineReset_eq, State.postAll_line]
    exact Option.some_ne_none _
  | exchanged c bytes hr hh hx => exact hx.still.giveBack.noWait hn
  | pinFell c h => exact hrefl.setHeld.noWait hn
  | portFell c h => exact (s.resetPort_still h).giveBack.setHeld.noWait hn
  | pinRose c h => exact hrefl.setHeld.noWait hn
  | took c hq hx => exact hx.noWait (hrefl.taken.noWait hn)
  | configured o b hq hc hm hx => exact (hrefl.taken.trans hx.still).answer.noWait hn
  | resetting c hr hlr hx => exact .of_busy hx.busy
  | gapEnded c g => exact State.gapEnd_noWait hlaw
  | startSent c n => exact hrefl.setStart.addBits.noWait hn
  | @onLine c x t n hr hc hx he => exact .of_busy (he.busy hx)
  | answerMissed c n hr hc hx => exact .of_busy (State.answerJudged_busy (s := s.addBits n) hx _)
  | answerCame k bits n hr hc hx => exact .of_busy (State.answerJudged_busy (s := s.addBits n) hx _)
  | joinReported c hr hj =>
    have hgrant := s.setWanted.grant_noWait
    unfold State.reportJoin
    dsimp only
    split
    · exact (State.Still.refl _).setStart.noWait hgrant
    · exact hgrant
  | expired c hr hn' hx => exact hx.noWait (hrefl.elapseTo.noWait hn)

/-- Settles O58: whoever an event makes a candidate is granted in it, or finds the line in use. -/
theorem noCandidateWaitsOnAFreeLine : Obligations.NoCandidateWaitsOnAFreeLine := by
  refine keptByStep_of_event (fun s rest ⟨hl, hn⟩ => ⟨?_, hn⟩) (fun s t c he ⟨hl, hn⟩ => ⟨he.law hl, he.noWait hl hn⟩)
    fun s _ ⟨hl, hn⟩ => ?_
  · exact { hl with uids := hl.uids, line := hl.line, round := hl.round }
  · unfold State.tick
    split
    · exact ⟨hl, hn⟩
    · exact ⟨{ hl with uids := hl.uids, line := hl.line, round := hl.round }, hn⟩

end

end Sys2Proof.Machine
end

section
/-! SUPPORT. What the controller's own work does to a host port: replies and notices placed, the slot granted and emptied (R74, R76,
R87, R149, R157, R165). -/

namespace Sys2Proof.Machine

set_option Elab.async false

open Sys2Proof

/-! ### The ports while the controller works (R149, R157) -/

/-- What the controller's own work, apart from exchanges and takes, may make of a port. -/
inductive Port.Served : Port → Port → Prop where
  | refl (p : Port) : p.Served p
  | reply {p q : Port} (k : p.Served q) (r : Reply) : p.Served (q.placeReply r)
  | notice {p q : Port} (k : p.Served q) (n : Notice) : p.Served (q.offer n)
  | emptied {p q : Port} (k : p.Served q) : p.Served { q with slot := none }
  | granted {p q : Port} (k : p.Served q) (r : LineRequest) (hs : q.slot = some { req := r, granted := false }) :
      p.Served { q with slot := some { req := r, granted := true } }

theorem Port.Served.trans {p q r : Port} (h : p.Served q) (k : q.Served r) : p.Served r := by
  induction k with
  | refl => exact h
  | reply _ x ih => exact ih.reply x
  | notice _ n ih => exact ih.notice n
  | emptied _ ih => exact ih.emptied
  | granted _ x hs ih => exact ih.granted x hs

theorem Port.Served.wf {p q : Port} (k : p.Served q) (hp : p.Wf) : q.Wf := by
  induction k with
  | refl => exact hp
  | reply _ r ih => exact ih.placeReply r
  | notice _ n ih => exact ih.offer n
  | emptied _ ih => exact ih
  | granted _ r hs ih => exact ih

/-- R165 at one port. -/
def Port.EmptyIfHeld (p : Port) : Prop :=
  p.held = true → p.queue = [] ∧ p.owed = [] ∧ p.outbound = [] ∧ p.overrun = false ∧ p.candidate = false

theorem State.heldPortsEmpty_iff {s : State} : s.HeldPortsEmpty ↔ (s.inReset = false → ∀ h, (s.port h).EmptyIfHeld) := .rfl

theorem Port.EmptyIfHeld.of_free {p : Port} (h : p.held = false) : p.EmptyIfHeld := fun hh => by
  rw [h] at hh
  cases hh

theorem Port.EmptyIfHeld.placeReply {p : Port} (hp : p.EmptyIfHeld) (r : Reply) : (p.placeReply r).EmptyIfHeld := by
  rcases p.placeReply_cases r with ⟨hm, he⟩ | ⟨-, he⟩
  · refine .of_free ?_
    by_contra hh
    rw [Port.placeReply_held] at hh
    rw [(hp (by simpa using hh)).2.1] at hm
    cases hm
  · rw [he]
    exact hp

theorem Port.EmptyIfHeld.offer {p : Port} (hp : p.EmptyIfHeld) (n : Notice) : (p.offer n).EmptyIfHeld := by
  rcases p.offer_cases n with ⟨-, he⟩ | ⟨hh, -, -⟩ | ⟨hh, -, -⟩
  · rw [he]
    exact hp
  all_goals exact .of_free (by simpa using hh)

theorem Port.EmptyIfHeld.emptied {p : Port} (hp : p.EmptyIfHeld) : Port.EmptyIfHeld { p with slot := none } := fun hh =>
  let ⟨hq, ho, hb, hv, _⟩ := hp hh
  ⟨hq, ho, hb, hv, rfl⟩

theorem Port.Served.emptyIfHeld {p q : Port} (k : p.Served q) (hp : p.EmptyIfHeld) : q.EmptyIfHeld := by
  induction k with
  | refl => exact hp
  | reply _ r ih => exact ih.placeReply r
  | notice _ n ih => exact ih.offer n
  | emptied _ ih => exact ih.emptied
  | granted _ r hs ih =>
    intro hh
    obtain ⟨hq, ho, hb, hv, -⟩ := ih hh
    exact ⟨hq, ho, hb, hv, rfl⟩

/-! ### The timers and the claims (R1, R11, R110, R119, R120, R138) -/

/-- Each timer of an entry ran with the same expiry before, or has been started since. -/
structure Entry.Dated (now : Nat) (e f : Entry) : Prop where
  lost : ∀ n, f.state = .lost → f.quarantine = some n → (e.state = .lost ∧ e.quarantine = some n) ∨ now ≤ n
  lease : ∀ c, f.claim = some c → (∃ d, e.claim = some d ∧ c.expires = d.expires) ∨ now ≤ c.expires
  wait : ∀ c w, f.claim = some c → w ∈ c.waits → (∃ d, e.claim = some d ∧ w ∈ d.waits) ∨ now ≤ w.expires
  poll : ∀ d n, f.deferred = some d → d.phase = .timing n → (∃ g, e.deferred = some g ∧ g.phase = .timing n) ∨ now ≤ n

theorem Entry.Dated.refl (now : Nat) (e : Entry) : e.Dated now e :=
  ⟨fun _ hs hq => .inl ⟨hs, hq⟩, fun c hc => .inl ⟨c, hc, rfl⟩, fun c _ hc hw => .inl ⟨c, hc, hw⟩, fun d _ hd hp => .inl ⟨d, hd, hp⟩⟩

theorem Entry.Dated.trans {now : Nat} {e f g : Entry} (h : e.Dated now f) (k : f.Dated now g) : e.Dated now g where
  lost n hs hq := (k.lost n hs hq).elim (fun ⟨hs, hq⟩ => h.lost n hs hq) .inr
  lease c hc := (k.lease c hc).elim (fun ⟨d, hd, he⟩ => by rw [he]; exact h.lease d hd) .inr
  wait c w hc hw := (k.wait c w hc hw).elim (fun ⟨d, hd, hm⟩ => h.wait d w hd hm) .inr
  poll d n hd hp := (k.poll d n hd hp).elim (fun ⟨g, hg, hp⟩ => h.poll g n hg hp) .inr

/-- A claim whose wait items and lease were there before, or begin now. -/
theorem Entry.Dated.setClaim {now : Nat} {e : Entry} {x : Option Claim}
    (hl : ∀ c, x = some c → (∃ d, e.claim = some d ∧ c.expires = d.expires) ∨ now ≤ c.expires)
    (hw : ∀ c w, x = some c → w ∈ c.waits → (∃ d, e.claim = some d ∧ w ∈ d.waits) ∨ now ≤ w.expires) : e.Dated now { e with claim := x } :=
  ⟨(Entry.Dated.refl now e).lost, hl, hw, (Entry.Dated.refl now e).poll⟩

theorem Entry.Dated.setDeferred {now : Nat} {e : Entry} {x : Option Deferred}
    (hd : ∀ d n, x = some d → d.phase = .timing n → (∃ g, e.deferred = some g ∧ g.phase = .timing n) ∨ now ≤ n) :
    e.Dated now { e with deferred := x } :=
  ⟨(Entry.Dated.refl now e).lost, (Entry.Dated.refl now e).lease, (Entry.Dated.refl now e).wait, hd⟩

/-- Claim and deferred records stay or go. -/
theorem Entry.Dated.of_records {now : Nat} {e f : Entry} (hc : f.claim = e.claim ∨ f.claim = none)
    (hd : f.deferred = e.deferred ∨ f.deferred = none)
    (hl : ∀ n, f.state = .lost → f.quarantine = some n → (e.state = .lost ∧ e.quarantine = some n) ∨ now ≤ n) : e.Dated now f where
  lost := hl
  lease c h := hc.elim (fun hc => .inl ⟨c, hc ▸ h, rfl⟩) fun hc => by rw [hc] at h; cases h
  wait c w h hw := hc.elim (fun hc => .inl ⟨c, hc ▸ h, hw⟩) fun hc => by rw [hc] at h; cases h
  poll d n h hp := hd.elim (fun hd => .inl ⟨d, hd ▸ h, hp⟩) fun hd => by rw [hd] at h; cases h

/-! ### The controller's own work -/

/-- The ports are served, each timer ran before or starts now, and the claims stay in order. -/
structure State.Orderly (s t : State) : Prop where
  port : ∀ h, (s.port h).Served (t.port h)
  inReset : t.inReset = s.inReset
  time : t.time = s.time
  sweep : ∀ n, t.sweep.timer = some n → s.sweep.timer = some n ∨ s.time ≤ n
  entry : ∀ a, (s.entry a).Dated s.time (t.entry a)
  claims : s.ClaimsWf → t.ClaimsWf

section
variable {s t u : State}

theorem State.Orderly.refl (s : State) : s.Orderly s :=
  ⟨fun _ => .refl _, rfl, rfl, fun _ => .inl, fun _ => .refl _ _, id⟩

theorem State.Orderly.trans (h : s.Orderly t) (k : t.Orderly u) : s.Orderly u where
  port g := (h.port g).trans (k.port g)
  inReset := k.inReset.trans h.inReset
  time := k.time.trans h.time
  sweep n hn := (k.sweep n hn).elim (h.sweep n) fun hle => .inr (h.time ▸ hle)
  entry a := (h.entry a).trans (h.time ▸ k.entry a)
  claims := k.claims ∘ h.claims

theorem State.Orderly.portsWf (k : s.Orderly t) (h : s.PortsWf) : t.PortsWf := fun g => (k.port g).wf (h g)

theorem State.Orderly.heldPortsEmpty (k : s.Orderly t) (h : s.HeldPortsEmpty) : t.HeldPortsEmpty :=
  State.heldPortsEmpty_iff.2 fun hr g => (k.port g).emptyIfHeld (State.heldPortsEmpty_iff.1 h (k.inReset ▸ hr) g)

/-- A timer that runs afterwards ran before, or has not run out. -/
theorem State.Orderly.runs (k : s.Orderly t) {n : Nat} {c : Instr} (hr : t.Runs n c) : (∃ d, s.Runs n d) ∨ s.time ≤ n := by
  rcases hr with ⟨hs, -⟩ | ⟨a, ⟨hl, hq, -⟩ | ⟨cl, hc, ⟨rfl, -⟩ | ⟨w, hw, rfl, -⟩⟩ | ⟨d, hd, hp, -⟩⟩
  · exact (k.sweep n hs).imp_left fun hs => ⟨_, .inl ⟨hs, rfl⟩⟩
  · exact ((k.entry a).lost n hl hq).imp_left fun ⟨hl, hq⟩ => ⟨_, .inr ⟨a, .inl ⟨hl, hq, rfl⟩⟩⟩
  · exact ((k.entry a).lease cl hc).imp_left fun ⟨d, hd, he⟩ => ⟨_, .inr ⟨a, .inr (.inl ⟨d, hd, .inl ⟨he, rfl⟩⟩)⟩⟩
  · exact ((k.entry a).wait cl w hc hw).imp_left fun ⟨d, hd, hm⟩ => ⟨_, .inr ⟨a, .inr (.inl ⟨d, hd, .inr ⟨w, hm, rfl, rfl⟩⟩)⟩⟩
  · exact ((k.entry a).poll d n hd hp).imp_left fun ⟨g, hg, hp⟩ => ⟨_, .inr ⟨a, .inr (.inr ⟨g, hg, hp, rfl⟩)⟩⟩

theorem State.Orderly.timerLaw (k : s.Orderly t) (h : s.TimerLaw) : t.TimerLaw := fun n c hr => by
  rw [k.time]
  rcases k.runs hr with ⟨d, hd⟩ | hle
  · exact h n d hd
  · exact hle

/-- A change of nothing that ports, timers and claims read. -/
theorem State.Orderly.of_same (hp : ∀ h, t.port h = s.port h := by intro; rfl) (he : ∀ a, t.entry a = s.entry a := by intro; rfl)
    (hr : t.inReset = s.inReset := by rfl) (ht : t.time = s.time := by rfl) (hs : t.sweep.timer = s.sweep.timer := by rfl) : s.Orderly t where
  port h := by rw [hp]; exact .refl _
  inReset := hr
  time := ht
  sweep n hn := .inl (hs ▸ hn)
  entry a := by rw [he]; exact .refl _ _
  claims h a c hc := h a c (he a ▸ hc)

theorem State.Orderly.of_entry (hp : ∀ h, t.port h = s.port h) (hr : t.inReset = s.inReset) (ht : t.time = s.time)
    (hs : t.sweep = s.sweep) (he : ∀ a, (s.entry a).Dated s.time (t.entry a)) (hc : s.ClaimsWf → t.ClaimsWf) : s.Orderly t where
  port h := by rw [hp]; exact .refl _
  inReset := hr
  time := ht
  sweep n hn := .inl (hs ▸ hn)
  entry := he
  claims := hc

section
variable (k : s.Orderly t)

include k

theorem State.Orderly.post {p : Post} : s.Orderly (t.post p) := by
  refine k.trans ⟨fun g => ?_, State.post_inReset .., State.post_time .., fun n hn => .inl (by rwa [State.post_sweep] at hn), fun a => ?_,
    fun h a c hc => h a c (by rwa [State.post_entry] at hc)⟩
  · cases p with
    | reply h tag kind o q b =>
      simp only [State.post, State.port_setPort]
      split
      · next hg => exact hg ▸ (Port.Served.refl _).reply _
      · exact .refl _
    | notice b =>
      simp only [State.post, State.port_offerAll]
      split
      · exact (Port.Served.refl _).notice _
      · exact .refl _
    | noticeTo h b =>
      simp only [State.post, State.port_setPort]
      split
      · next hg => exact hg ▸ (Port.Served.refl _).notice _
      · exact .refl _
  · rw [State.post_entry]
    exact .refl _ _

theorem State.Orderly.postAll {ps : List Post} : s.Orderly (t.postAll ps) := by
  induction ps generalizing t with
  | nil => exact k
  | cons p ps ih => exact ih k.post

theorem State.Orderly.emptySlot {h : HostId} : s.Orderly (t.setSlot h none) := by
  refine k.trans ⟨fun g => ?_, rfl, rfl, fun _ => .inl, fun _ => .refl _ _, id⟩
  rw [State.setSlot, State.port_setPort]
  split
  · next hg => exact hg ▸ (Port.Served.refl _).emptied
  · exact .refl _

theorem State.Orderly.grantSlot {h : HostId} {r : LineRequest} (hs : (t.port h).slot = some { req := r, granted := false }) :
    s.Orderly (t.setSlot h (some ⟨r, true⟩)) := by
  refine k.trans ⟨fun g => ?_, rfl, rfl, fun _ => .inl, fun _ => .refl _ _, id⟩
  rw [State.setSlot, State.port_setPort]
  split
  · next hg =>
    subst hg
    exact (Port.Served.refl _).granted r hs
  · exact .refl _

theorem State.Orderly.answer {h : HostId} {r : Request} {o : ReplyOutcome} {b : ReplyBody} : s.Orderly (t.answer h r o b) := k.post

theorem State.Orderly.answerClaim {h : HostId} {r : Request} {o : ReplyOutcome} {b : ClaimBody} : s.Orderly (t.answerClaim h r o b) := by
  have hfree : s.Orderly (t.useFree r.body.length) := by
    unfold State.useFree
    split
    · exact k.trans .of_same
    · exact k
  exact hfree.answer

theorem State.Orderly.setEntry {a : Addr} {e : Entry} (he : (t.entry a).Dated t.time e)
    (hc : (∀ c, (t.entry a).claim = some c → c.Wf) → ∀ c, e.claim = some c → c.Wf) : s.Orderly (t.setEntry a e) := by
  refine k.trans (.of_entry (fun _ => rfl) rfl rfl rfl (fun b => ?_) fun h b c hb => ?_)
  · rw [State.entry_setEntry]
    split
    · next hb => exact hb ▸ he
    · exact .refl _ _
  · rw [State.entry_setEntry] at hb
    split at hb
    · exact hc (h a) c hb
    · exact h b c hb

/-- The deferred record changes and the claim stays. -/
theorem State.Orderly.setDeferred {a : Addr} {x : Option Deferred}
    (hd : ∀ d n, x = some d → d.phase = .timing n → (∃ g, (t.entry a).deferred = some g ∧ g.phase = .timing n) ∨ t.time ≤ n) :
    s.Orderly (t.setEntry a { t.entry a with deferred := x }) := k.setEntry (.setDeferred hd) id

theorem State.Orderly.setLine {l : Line} : s.Orderly { t with line := l } := k.trans .of_same

theorem State.Orderly.setWalk {b : Bool} {a : Addr} : s.Orderly { t with sweep := { t.sweep with active := b, cursor := a } } := k.trans .of_same

theorem State.Orderly.setEngine {e : Engine} : s.Orderly { t with engine := e } := k.trans .of_same

theorem State.Orderly.modConfig {f : Params → Params} : s.Orderly (t.modConfig f) := k.trans .of_same

theorem State.Orderly.endIdlePass : s.Orderly t.endIdlePass := by
  unfold State.endIdlePass
  split
  · exact k.setWalk
  · exact k

theorem State.Orderly.advanceSweep {a : Addr} : s.Orderly (t.advanceSweep a) := by
  unfold State.advanceSweep
  split
  · split <;> exact k.setWalk
  · exact k

end

end

end Sys2Proof.Machine
end

section
/-! SUPPORT. The requests that an entry keeps open, and what the directory's and the engine's work on the line does to its claim and
deferred records (R8, R10, R18, R114, R133, R160). -/

namespace Sys2Proof.Machine

set_option Elab.async false

open Sys2Proof

/-! ### Requests that an entry keeps open (R119, R104, R160) -/

/-- How many wait items of an entry's claim belong to host `h`'s request with this tag. -/
def Entry.waitsOf (e : Entry) (h : HostId) (tag : Tag) : Nat :=
  match e.claim with
  | some c => c.waits.countP fun w => w.host = h ∧ w.tag = tag
  | none => 0

/-- Whether an entry's deferred record belongs to host `h`'s request with this tag, as a number. -/
def Entry.defersOf (e : Entry) (h : HostId) (tag : Tag) : Nat :=
  match e.deferred with
  | some d => if d.owner = some h ∧ d.tag = tag then 1 else 0
  | none => 0

/-- How often host `h`'s request with this tag stands open in an entry. -/
def Entry.opens (e : Entry) (h : HostId) (tag : Tag) : Nat := e.waitsOf h tag + e.defersOf h tag

/-- How often host `h`'s request with this tag stands open in the directory. -/
def State.opens (s : State) (h : HostId) (tag : Tag) : Nat := ∑ a, (s.entry a).opens h tag

/-- Whether an item is the reply to host `h`'s request with this tag. -/
def Post.answers (h : HostId) (tag : Tag) : Post → Bool
  | .reply g t _ _ _ _ => g == h && t == tag
  | _ => false

/-- How many of an event's items are replies to host `h`'s request with this tag. -/
def repliesTo (ps : List Post) (h : HostId) (tag : Tag) : Nat := ps.countP (Post.answers h tag)

@[simp] theorem repliesTo_nil (h : HostId) (tag : Tag) : repliesTo [] h tag = 0 := rfl

@[simp] theorem repliesTo_append (ps qs : List Post) (h : HostId) (tag : Tag) :
    repliesTo (ps ++ qs) h tag = repliesTo ps h tag + repliesTo qs h tag := List.countP_append

theorem repliesTo_reply (g : HostId) (t kind : Byte) (o : ReplyOutcome) (q : Byte) (b : ReplyBody) (ps : List Post) (h : HostId) (tag : Tag) :
    repliesTo (.reply g t kind o q b :: ps) h tag = repliesTo ps h tag + if g = h ∧ t = tag then 1 else 0 := by
  rw [repliesTo, List.countP_cons, repliesTo]
  simp [Post.answers]

section
variable {e f : Entry} {h : HostId} {tag : Tag}

theorem repliesTo_waits (ws : List WaitItem) {p : WaitItem → Post} (hp : ∀ w, ∃ o b, p w = w.reply o b) (h : HostId) (tag : Tag) :
    repliesTo (ws.map p) h tag = ws.countP fun w => w.host = h ∧ w.tag = tag := by
  rw [repliesTo, List.countP_map]
  refine List.countP_congr fun w _ => ?_
  obtain ⟨o, b, hw⟩ := hp w
  simp [hw, WaitItem.reply, Post.answers]

theorem repliesTo_waitersEnd (e : Entry) (o : ReplyOutcome) (h : HostId) (tag : Tag) :
    repliesTo (e.waitersEnd o) h tag = e.waitsOf h tag := by
  unfold Entry.waitersEnd Entry.waitsOf
  cases e.claim with
  | none => rfl
  | some c => exact repliesTo_waits c.waits (fun w => ⟨_, _, rfl⟩) h tag

theorem repliesTo_deferred (d : Deferred) (o : ReplyOutcome) (n : Nat) (b : ReplyBody) (h : HostId) (tag : Tag) :
    repliesTo (d.reply o n b) h tag = if d.owner = some h ∧ d.tag = tag then 1 else 0 := by
  unfold Deferred.reply
  cases d.owner with
  | none => simp
  | some g => simp [repliesTo_reply]

theorem repliesTo_deferredAborted (e : Entry) (cause : AbortCause) (n : Nat) (h : HostId) (tag : Tag) :
    repliesTo (e.deferredAborted cause n) h tag = e.defersOf h tag := by
  unfold Entry.deferredAborted Entry.defersOf
  cases e.deferred with
  | none => rfl
  | some d => exact repliesTo_deferred d _ _ _ h tag

theorem repliesTo_holderRevoked (e : Entry) (a : Addr) (reason : RevokeReason) (h : HostId) (tag : Tag) :
    repliesTo (e.holderRevoked a reason) h tag = 0 := by
  unfold Entry.holderRevoked
  cases e.claim <;> rfl

theorem Entry.opens_congr (hc : f.claim = e.claim) (hd : f.deferred = e.deferred) (h : HostId) (tag : Tag) : f.opens h tag = e.opens h tag := by
  rw [Entry.opens, Entry.waitsOf, Entry.defersOf, hc, hd]
  rfl

theorem Entry.opens_none (hc : e.claim = none) (hd : e.deferred = none) (h : HostId) (tag : Tag) : e.opens h tag = 0 := by
  simp only [Entry.opens, Entry.waitsOf, Entry.defersOf, hc, hd]

/-- The directory's open requests after a change of one entry. -/
theorem State.opens_setEntry (s : State) (a : Addr) (e : Entry) (h : HostId) (tag : Tag) :
    (s.setEntry a e).opens h tag + (s.entry a).opens h tag = s.opens h tag + e.opens h tag := by
  have hother : ∑ b ∈ Finset.univ.erase a, ((s.setEntry a e).entry b).opens h tag = ∑ b ∈ Finset.univ.erase a, (s.entry b).opens h tag :=
    Finset.sum_congr rfl fun b hb => by rw [s.entry_setEntry_ne (Finset.ne_of_mem_erase hb)]
  rw [State.opens, State.opens, ← Finset.add_sum_erase _ _ (Finset.mem_univ a), ← Finset.add_sum_erase Finset.univ (fun b => (s.entry b).opens h tag)
    (Finset.mem_univ a), hother, State.entry_setEntry_same]
  omega

theorem State.opens_congr {s t : State} (he : ∀ a, (t.entry a).opens h tag = (s.entry a).opens h tag) : t.opens h tag = s.opens h tag :=
  Finset.sum_congr rfl fun a _ => he a

end

/-! ### The directory's part of an event (R6 to R11, R17 to R19, R55 to R62) -/

/-- No claim and no deferred record but on a PRESENT or SUSPECT entry (R10, R119). -/
def Entry.Tidy (e : Entry) : Prop := (e.claim ≠ none → e.bound = true) ∧ (e.deferred ≠ none → e.bound = true)

theorem Entry.Wf.tidy {e : Entry} {n : Nat} (h : e.Wf n) : e.Tidy := by
  obtain ⟨-, -, -, -, -, hc, hd⟩ := h
  exact ⟨hc, hd⟩

theorem Entry.Tidy.records {e : Entry} (h : e.Tidy) (hb : e.bound = false) : e.claim = none ∧ e.deferred = none := by
  constructor
  · by_contra hc
    rw [h.1 hc] at hb
    cases hb
  · by_contra hd
    rw [h.2 hd] at hb
    cases hb

/-- What becomes of an entry with the items `ps`: its records stay, or go with the replies they owe; a quarantine timer starts now. -/
structure Entry.Turns (now : Nat) (e : Entry) (ps : List Post) (f : Entry) : Prop where
  claim : f.claim = e.claim ∨ f.claim = none
  deferred : f.deferred = e.deferred ∨ f.deferred = none
  lost : ∀ n, f.state = .lost → f.quarantine = some n → (e.state = .lost ∧ e.quarantine = some n) ∨ now ≤ n
  opens : e.Tidy → ∀ h tag, e.opens h tag = f.opens h tag + repliesTo ps h tag

section
variable {now : Nat} {e f : Entry} {ps : List Post}

/-- The other fields of an entry change, and it is not LOST. -/
theorem Entry.Turns.stays (hc : f.claim = e.claim) (hd : f.deferred = e.deferred) (hl : f.state ≠ .lost) : e.Turns now [] f :=
  ⟨.inl hc, .inl hd, fun _ hs => absurd hs hl, fun _ h tag => (Entry.opens_congr hc hd h tag).symm⟩

/-- The records of an entry go with the replies that they owe. -/
theorem Entry.Turns.ended (hc : f.claim = none) (hd : f.deferred = none) (hl : ∀ n, f.state = .lost → f.quarantine = some n → now ≤ n)
    (hq : e.Tidy → ∀ h tag, e.opens h tag = repliesTo ps h tag) : e.Turns now ps f :=
  ⟨.inr hc, .inr hd, fun n hs hn => .inr (hl n hs hn), fun ht h tag => by rw [Entry.opens_none hc hd, hq ht, Nat.zero_add]⟩

theorem Entry.Turns.dated (k : e.Turns now ps f) : e.Dated now f := .of_records k.claim k.deferred k.lost

end

/-- The directory's part of an event, with the items it places: claim and deferred records stay, or go with their replies. -/
structure State.Settles (s : State) (ps : List Post) (t : State) : Prop where
  within : s.Within t
  dated : ∀ a, (s.entry a).Dated s.time (t.entry a)
  claim : ∀ a, (t.entry a).claim = (s.entry a).claim ∨ (t.entry a).claim = none
  opens : (∀ a, (s.entry a).Tidy) → ∀ h tag, s.opens h tag = t.opens h tag + repliesTo ps h tag

section
variable {s t u : State} {ps qs : List Post} {a : Addr}

theorem State.settles_refl (s : State) : s.Settles [] s := ⟨.refl s, fun _ => .refl _ _, fun _ => .inl rfl, fun _ h tag => by rw [repliesTo_nil, Nat.add_zero]⟩

theorem State.settles_setEntry {e : Entry} (he : (s.entry a).Turns s.time qs e) : s.Settles qs (s.setEntry a e) := by
  refine ⟨(State.Within.refl s).setEntry, fun b => ?_, fun b => ?_, fun hs h tag => ?_⟩
  · rw [State.entry_setEntry]
    split
    · next hb => exact hb ▸ he.dated
    · exact .refl _ _
  · rw [State.entry_setEntry]
    split
    · next hb => exact hb ▸ he.claim
    · exact .inl rfl
  · have hsum := s.opens_setEntry a e h tag
    have hone := he.opens (hs a) h tag
    omega

/-- The order of an event's items and its notices count for no reply. -/
theorem State.Settles.items (k : s.Settles ps t) (hq : ∀ h tag, repliesTo qs h tag = repliesTo ps h tag) : s.Settles qs t :=
  ⟨k.within, k.dated, k.claim, fun hs h tag => by rw [k.opens hs, hq]⟩

/-- A further change that leaves the claim and deferred records. -/
theorem State.Settles.after (k : s.Settles ps t) (hw : t.Within u) (hc : ∀ a, (u.entry a).claim = (t.entry a).claim)
    (hd : ∀ a, (t.entry a).Dated t.time (u.entry a)) (he : ∀ a, (u.entry a).deferred = (t.entry a).deferred) : s.Settles ps u where
  within := k.within.trans hw
  dated a := (k.dated a).trans (k.within.time ▸ hd a)
  claim a := by
    rw [hc]
    exact k.claim a
  opens hs h tag := by rw [State.opens_congr fun a => Entry.opens_congr (hc a) (he a) h tag, k.opens hs]

theorem State.Settles.same (k : s.Settles ps t) (hw : t.Within u) (he : ∀ a, u.entry a = t.entry a) : s.Settles ps u :=
  k.after hw (fun a => by rw [he]) (fun a => by rw [he]; exact .refl _ _) fun a => by rw [he]

theorem State.Settles.bumpSerial (k : s.Settles ps t) : s.Settles ps t.bumpSerial := k.same (State.Within.refl t).bumpSerial fun _ => rfl

theorem State.Settles.setRecalls (k : s.Settles ps t) {l : List Recall} : s.Settles ps (t.setRecalls l) :=
  k.same (State.Within.refl t).setRecalls fun _ => rfl

theorem State.Settles.setParked (k : s.Settles ps t) {n : Nat} : s.Settles ps (t.setParked n) :=
  k.same (State.Within.refl t).setParked fun _ => rfl

theorem State.Settles.modEngine (k : s.Settles ps t) {f : Engine → Engine} : s.Settles ps (t.modEngine f) :=
  k.same (State.Within.refl t).modEngine fun _ => rfl

theorem State.Settles.decideRound (k : s.Settles ps t) {how : RoundEnd} : s.Settles ps (t.decideRound how) := k.modEngine

theorem State.Settles.setWanted (k : s.Settles ps t) : s.Settles ps t.setWanted := k.same (State.Within.refl t).setWanted fun _ => rfl

theorem State.Settles.wantIfParked (k : s.Settles ps t) : s.Settles ps t.wantIfParked := by
  unfold State.wantIfParked
  split
  · exact k.setWanted
  · exact k

/-- An entry that has no records any more is freed (R8, R11). -/
theorem State.Settles.freeRecorded (k : s.Settles ps t) (hc : (t.entry a).claim = none) (hd : (t.entry a).deferred = none) :
    s.Settles ps (t.freeRecorded a) := by
  have hfreed : s.Settles ps ((t.setRecalls (joinEntry t.dir.recalls (t.entry a) a)).setEntry a (t.entry a).freed) := by
    refine k.after ((State.Within.refl t).setRecalls.setEntry) (fun b => ?_) (fun b => ?_) fun b => ?_
    · rw [State.entry_setEntry]
      split
      · next hb => rw [hb, hc]; rfl
      · rfl
    · rw [State.entry_setEntry]
      split
      · next hb =>
        rw [hb]
        exact .of_records (.inr rfl) (.inr rfl) fun n hs => by cases hs
      · exact .refl _ _
    · rw [State.entry_setEntry]
      split
      · next hb => rw [hb, hd]; rfl
      · rfl
  exact hfreed.wantIfParked

/-! ### Misses and outcomes (R6 to R8) -/

theorem State.lostEntry_quarantine (s : State) (e : Entry) (n : Nat) (hq : (s.lostEntry e).quarantine = some n) : s.time ≤ n := by
  obtain rfl := Option.some.inj hq
  exact Nat.le_add_right ..

/-- The move of an entry to LOST, with the replies that its records owe among the items (R8, R10). -/
theorem State.intoLost_settles (hq : (s.entry a).Tidy → ∀ h tag, (s.entry a).opens h tag = repliesTo qs h tag) :
    s.Settles qs (s.intoLost a).1 := by
  have hlost : s.Settles qs (s.setEntry a (s.lostEntry (s.entry a))).bumpSerial :=
    (State.settles_setEntry (.ended rfl rfl (fun n _ => s.lostEntry_quarantine _ n) hq)).bumpSerial
  have hentry : (s.setEntry a (s.lostEntry (s.entry a))).bumpSerial.entry a = s.lostEntry (s.entry a) := s.entry_setEntry_same a _
  unfold State.intoLost
  dsimp only
  split
  · exact hlost.freeRecorded (by rw [hentry]; rfl) (by rw [hentry]; rfl)
  · exact hlost

theorem State.intoLost_items (s : State) (a : Addr) (h : HostId) (tag : Tag) : repliesTo (s.intoLost a).2 h tag = 0 := by
  unfold State.intoLost
  dsimp only
  split <;> rfl

/-- The replies of an entry's records, and the notice to its holder, count as its open requests (R8, R18). -/
theorem repliesTo_ending (e : Entry) (a : Addr) (o : ReplyOutcome) (cause : AbortCause) (n : Nat) (reason : RevokeReason) (h : HostId)
    (tag : Tag) : repliesTo (e.waitersEnd o ++ e.deferredAborted cause n ++ e.holderRevoked a reason) h tag = e.opens h tag := by
  rw [repliesTo_append, repliesTo_append, repliesTo_waitersEnd, repliesTo_deferredAborted, repliesTo_holderRevoked, Entry.opens, Nat.add_zero]

theorem State.moveToLost_settles (s : State) (a : Addr) (n : Nat) : s.Settles (s.moveToLost a n).2 (s.moveToLost a n).1 := by
  refine State.intoLost_settles fun _ h tag => ?_
  unfold State.moveToLost
  dsimp only
  rw [repliesTo_append, State.intoLost_items, Nat.add_zero, repliesTo_ending]

theorem State.countMiss_settles (s : State) (a : Addr) (n : Nat) : s.Settles (s.countMiss a n).2 (s.countMiss a n).1 := by
  unfold State.countMiss
  dsimp only
  split
  · have hmiss : s.Settles [] (s.setEntry a { s.entry a with state := .suspect, miss := (s.entry a).miss + 1 }) :=
      State.settles_setEntry (.stays rfl rfl (by simp))
    refine State.Settles.items (ps := []) ?_ fun _ _ => rfl
    dsimp only
    split
    · exact hmiss.bumpSerial
    · exact hmiss
  · exact s.moveToLost_settles a n

theorem State.clearMiss_settles (s : State) (a : Addr) : s.Settles [] (s.clearMiss a) := by
  have hclear : s.Settles [] (s.setEntry a { s.entry a with state := .present, miss := 0 }) :=
    State.settles_setEntry (.stays rfl rfl (by simp))
  unfold State.clearMiss
  dsimp only
  split
  · exact hclear.bumpSerial
  · exact hclear

theorem State.applyOutcome_settles (s : State) (a : Addr) (o : TxnOutcome) (n : Nat) :
    s.Settles (s.applyOutcome a o n).2 (s.applyOutcome a o n).1 := by
  unfold State.applyOutcome
  split
  · split
    · exact s.clearMiss_settles a
    · exact s.countMiss_settles a n
    · exact s.countMiss_settles a n
    all_goals exact s.settles_refl
  · exact s.settles_refl

theorem State.directoryTakes_settles (s : State) (x : Txn) (o : TxnOutcome) :
    s.Settles (s.directoryTakes x o).2 (s.directoryTakes x o).1 := by
  unfold State.directoryTakes
  split
  · exact s.applyOutcome_settles _ _ _
  · exact s.settles_refl

/-! ### The choice of an address (R17 to R20, R52) -/

theorem State.takeFree_settles (s : State) (a : Addr) (u : Uid) : s.Settles [] (s.takeFree a u) := by
  refine State.Settles.bumpSerial (State.settles_setEntry (.stays rfl rfl ?_))
  simp

theorem State.takeFree_recalled_settles (s : State) (l : List Recall) (a : Addr) (u : Uid) : s.Settles [] ((s.setRecalls l).takeFree a u) :=
  (s.takeFree_settles a u).setRecalls (l := l)

theorem State.retire_settles (s : State) (a : Addr) : s.Settles (s.retire a).2 (s.retire a).1 := by
  unfold State.retire
  refine State.Settles.bumpSerial (State.settles_setEntry (.ended rfl rfl (fun n hs => by cases hs) fun _ h tag => ?_))
  exact (repliesTo_ending _ a _ _ _ _ h tag).symm

theorem State.chooseAddress_settles (s : State) (u : Uid) : s.Settles (s.chooseAddress u).2.1 (s.chooseAddress u).1 := by
  unfold State.chooseAddress
  split
  · split
    · exact s.retire_settles _
    · refine State.Settles.bumpSerial (State.settles_setEntry (.stays rfl rfl ?_))
      simp
  · split
    · exact s.takeFree_recalled_settles _ _ u
    · split
      · exact s.takeFree_settles _ u
      · split
        · exact s.takeFree_recalled_settles _ _ u
        · exact s.settles_refl

theorem State.contentionResult_settles (s : State) (u : Uid) : s.Settles (s.contentionResult u).2 (s.contentionResult u).1 := by
  have hchosen := s.chooseAddress_settles u
  unfold State.contentionResult
  split
  · exact s.settles_refl.decideRound
  · split
    · exact s.settles_refl.decideRound.items fun _ _ => rfl
    · split
      all_goals
        next heq =>
          rw [heq] at hchosen
          dsimp only at hchosen ⊢
          exact hchosen.modEngine

/-! ### The decisions of a round (R56 to R64) -/

theorem State.recordFailure_settles (s : State) (u : Uid) : s.Settles (s.recordFailure u).2 (s.recordFailure u).1 := by
  unfold State.recordFailure
  generalize (if s.engine.lastFailed = some u then s.engine.failures + 1 else 1) = n
  dsimp only
  split
  · dsimp only
    exact s.settles_refl.modEngine.setWanted
  · dsimp only
    exact s.settles_refl.modEngine.items fun _ _ => rfl

theorem State.recordFailure_entry (s : State) (u : Uid) (a : Addr) : (s.recordFailure u).1.entry a = s.entry a := by
  unfold State.recordFailure
  generalize (if s.engine.lastFailed = some u then s.engine.failures + 1 else 1) = n
  dsimp only
  split <;> rfl

theorem State.recordFailure_items (s : State) (u : Uid) (h : HostId) (tag : Tag) : repliesTo (s.recordFailure u).2 h tag = 0 := by
  unfold State.recordFailure
  generalize (if s.engine.lastFailed = some u then s.engine.failures + 1 else 1) = n
  dsimp only
  split <;> rfl

theorem State.completeBind_settles (s : State) (a : Addr) (c : Option Byte) : s.Settles (s.completeBind a c).2 (s.completeBind a c).1 := by
  have hdone : s.Settles [] (s.setEntry a { s.entry a with state := .present, gen := (s.entry a).gen + 1, miss := 0, cls := c }).bumpSerial := by
    refine State.Settles.bumpSerial (State.settles_setEntry (.stays rfl rfl ?_))
    simp
  unfold State.completeBind State.bindDone
  dsimp only
  refine State.Settles.items (ps := []) hdone.modEngine.setWanted.decideRound fun h tag => ?_
  cases s.engine.path <;> rfl

/-- A bind that finally fails: the entry in BINDING has no records (R10, R59). -/
theorem State.failBind_settles (hb : (s.entry a).bound = false) : s.Settles (s.failBind a).2 (s.failBind a).1 := by
  have hlost : s.Settles [] (s.intoLost a).1 := State.intoLost_settles fun ht h tag => by
    obtain ⟨hc, hd⟩ := ht.records hb
    exact Entry.opens_none hc hd h tag
  unfold State.failBind State.bindLost
  dsimp only
  refine State.Settles.items (ps := []) (hlost.same (State.Within.refl _).recordFailure (State.recordFailure_entry _ _)).decideRound
    fun h tag => ?_
  rw [repliesTo_append, State.intoLost_items, State.recordFailure_items]
  rfl

theorem State.decidePark_settles (s : State) (j : Judgement) : s.Settles (s.decidePark j).2 (s.decidePark j).1 := by
  unfold State.decidePark
  split
  · unfold State.parkAccepted
    dsimp only
    refine State.Settles.items (ps := []) ?_ fun _ _ => rfl
    split
    · exact s.settles_refl.setParked.modEngine.decideRound
    · exact s.settles_refl.setParked.modEngine.setWanted.decideRound
  all_goals
    split
    · exact s.settles_refl
    · unfold State.failPark
      dsimp only
      exact (s.recordFailure_settles _).decideRound

end

end Sys2Proof.Machine
end

section
/-! SUPPORT. Grants, deliveries, line resets and handovers serve the ports, start their timers from now and keep the claims in order
(R74 to R78, R87 to R90, R119 to R124, R170). -/

namespace Sys2Proof.Machine

set_option Elab.async false

open Sys2Proof

/-! ### Claim records in order (R119, R123, R124) -/

section
variable {c : Claim}

theorem Claim.Wf.filter (h : c.Wf) (p : WaitItem → Bool) : Claim.Wf { c with waits := c.waits.filter p } := by
  obtain ⟨hlen, hnodup, hholder⟩ := h
  exact ⟨(List.length_filter_le p c.waits).trans hlen, (List.filter_sublist.map _).nodup hnodup,
    fun w hw => hholder w (List.mem_of_mem_filter hw)⟩

/-- A CLAIM that waits is one of at most three beside the holder (R119, R123). -/
theorem Claim.Wf.append (h : c.Wf) {w : WaitItem} (hh : c.holder ≠ w.host) (hw : ∀ x ∈ c.waits, x.host ≠ w.host) :
    Claim.Wf { c with waits := c.waits ++ [w] } := by
  obtain ⟨-, hnodup, hholder⟩ := h
  have hhosts : (c.holder :: (c.waits ++ [w]).map fun x => x.host).Nodup := by
    rw [List.nodup_cons, List.map_append, List.nodup_append]
    refine ⟨?_, hnodup, by simp, ?_⟩
    · simp only [List.mem_append, List.mem_map, List.map_cons, List.map_nil, List.mem_singleton, not_or, not_exists, not_and]
      exact ⟨fun x hx => hholder x hx, hh⟩
    · simpa using hw
  have hfour := hhosts.length_le_card
  have hcard : Fintype.card HostId = 4 := rfl
  rw [hcard, List.length_cons, List.length_map] at hfour
  refine ⟨?_, (List.nodup_cons.1 hhosts).2, fun x hx he => (List.nodup_cons.1 hhosts).1 ?_⟩
  · change (c.waits ++ [w]).length ≤ 3
    omega
  · exact List.mem_map.2 ⟨x, hx, he⟩

end

section
variable {s t u : State} {a : Addr}

/-- The next holder's record: its lease begins now, and it waited (R124). -/
theorem State.nextHolder_record {ws : List WaitItem} {c : Claim} (hc : (s.nextHolder ws).1 = some c) :
    s.time ≤ c.expires ∧ ∃ w before, ws = before ++ w :: c.waits ∧ c.holder = w.host := by
  induction ws with
  | nil => cases hc
  | cons w ws ih =>
    unfold State.nextHolder at hc
    split at hc
    · obtain rfl := Option.some.inj hc
      exact ⟨Nat.le_add_right .., w, [], rfl, rfl⟩
    · obtain ⟨hle, x, before, hws, hh⟩ := ih hc
      exact ⟨hle, x, w :: before, by rw [hws]; rfl, hh⟩

/-- The record of a handover among waiters in order is in order (R119, R124). -/
theorem State.nextHolder_wf {ws : List WaitItem} {c d : Claim} (hd : d.Wf) (hws : ws.Sublist d.waits) (hc : (s.nextHolder ws).1 = some c) :
    c.Wf := by
  obtain ⟨-, w, before, rfl, hh⟩ := State.nextHolder_record hc
  obtain ⟨hlen, hnodup, -⟩ := hd
  have hhosts := (hws.map fun w => w.host).nodup hnodup
  rw [List.map_append, List.nodup_append, List.map_cons, List.nodup_cons] at hhosts
  obtain ⟨-, ⟨hnot, hrest⟩, -⟩ := hhosts
  refine ⟨?_, hrest, fun x hx he => hnot ?_⟩
  · have hle := hws.length_le
    simp only [List.length_append, List.length_cons] at hle
    omega
  · rw [← hh, ← he]
    exact List.mem_map_of_mem hx

/-- The claim that a handover leaves was waiting, and its lease begins now. -/
theorem State.nextHolder_dated {e : Entry} {ws : List WaitItem} {d : Claim} (hd : e.claim = some d) (hws : ∀ w ∈ ws, w ∈ d.waits) :
    e.Dated s.time { e with claim := (s.nextHolder ws).1 } := by
  refine .setClaim (fun c hc => .inr (State.nextHolder_record hc).1) fun c w hc hw => .inl ⟨d, hd, ?_⟩
  obtain ⟨-, x, before, rfl, -⟩ := State.nextHolder_record hc
  exact hws w (by simp [hw])

theorem State.Orderly.handOver (k : s.Orderly t) {c : Claim} (hc : (t.entry a).claim = some c) : s.Orderly (t.handOver a c.waits).1 :=
  k.setEntry (State.nextHolder_dated hc fun _ => id) fun h _ hd => State.nextHolder_wf (h c hc) (.refl _) hd

/-- Wait items leave a claim. -/
theorem State.Orderly.filterWaits (k : s.Orderly t) {c : Claim} (hc : (t.entry a).claim = some c) (p : WaitItem → Bool) :
    s.Orderly (t.setEntry a { t.entry a with claim := some { c with waits := c.waits.filter p } }) := by
  refine k.setEntry (.setClaim (fun d hd => .inl ⟨c, hc, ?_⟩) fun d w hd hw => .inl ⟨c, hc, ?_⟩) fun h d hd => ?_
  · obtain rfl := Option.some.inj hd
    rfl
  · obtain rfl := Option.some.inj hd
    exact List.mem_of_mem_filter hw
  · obtain rfl := Option.some.inj hd
    exact (h c hc).filter p

/-! ### The directory and the engine -/

theorem State.Settles.orderly {ps : List Post} (k : s.Settles ps t) : s.Orderly t := by
  refine .of_entry k.within.port k.within.inReset k.within.time k.within.sweep k.dated fun h a c hc => ?_
  rcases k.claim a with he | he
  · exact h a c (he ▸ hc)
  · rw [he] at hc
    cases hc

theorem State.Orderly.settles {ps : List Post} (k : s.Orderly t) (h : t.Settles ps u) : s.Orderly u := k.trans h.orderly

theorem State.intoLost_orderly (s : State) (a : Addr) : s.Orderly (s.intoLost a).1 :=
  (State.intoLost_settles fun _ h tag => (repliesTo_ending _ a .stale .moduleLost 0 .moduleLost h tag).symm).orderly

theorem State.failBind_orderly (s : State) (a : Addr) : s.Orderly (s.failBind a).1 := by
  unfold State.failBind State.bindLost
  dsimp only
  exact ((s.intoLost_orderly a).settles (State.recordFailure_settles _ _)).settles (State.settles_refl _).decideRound

theorem State.engineDecides_orderly (s : State) (k : TxnKind) (j : Judgement) : s.Orderly (s.engineDecides k j).1 := by
  unfold State.engineDecides
  split
  · unfold State.decideAssign
    split
    · exact (s.completeBind_settles _ _).orderly
    all_goals exact (State.Orderly.refl s).setEngine
  · unfold State.decideConfirm
    split
    · exact (s.completeBind_settles _ _).orderly
    · split
      · exact (State.Orderly.refl s).setEngine
      · exact s.failBind_orderly _
  · exact (s.decidePark_settles j).orderly
  · exact .refl s

/-! ### Grants (R74 to R78) -/

section
variable (k : s.Orderly t)

include k

theorem State.Orderly.beginAttempt {x : Txn} : s.Orderly (t.beginAttempt x) := k.setLine

theorem State.Orderly.sendRoundToken : s.Orderly t.sendRoundToken := by
  unfold State.sendRoundToken
  split
  · exact State.Orderly.beginAttempt (State.Orderly.setEngine k)
  · exact k

theorem State.Orderly.setSched {c : Scheduler} : s.Orderly { t with sched := c } := k.trans .of_same

/-- The phase of a deferred record, when it is not a timer's, changes (R110, R111). -/
theorem State.Orderly.setPhase {p : PollPhase} (hp : ∀ n, p ≠ .timing n) :
    s.Orderly (t.setEntry a { t.entry a with deferred := (t.entry a).deferred.map fun d => { d with phase := p } }) := by
  refine k.setDeferred fun d n hd ht => absurd ht ?_
  obtain ⟨g, -, rfl⟩ := Option.map_eq_some_iff.1 hd
  exact hp n

theorem State.Orderly.grantSystem : s.Orderly t.grantSystem := by
  have hstart : s.Orderly (t.setSide .host).takeRate := k.setSched.setLine
  unfold State.grantSystem
  generalize (t.setSide .host).takeRate = v at hstart ⊢
  dsimp only
  split
  · exact State.Orderly.sendRoundToken (State.Orderly.setEngine hstart)
  · split
    · exact (hstart.setPhase (p := .polling) nofun).beginAttempt
    · split
      · exact State.Orderly.beginAttempt hstart.setWalk
      · exact hstart

theorem State.Orderly.choose (n : Nat) : s.Orderly (State.choose n t) := by
  induction n generalizing t with
  | zero => exact k
  | succ n ih =>
    cases hh : t.nextHost with
    | none =>
      simp only [State.choose, hh]
      split
      · exact k.grantSystem
      · exact k
    | some h =>
      cases hside : t.systemWaits && t.sched.side == .system with
      | true =>
        simp only [State.choose, hh, hside, if_true]
        exact k.grantSystem
      | false =>
        obtain ⟨r, hr⟩ := Port.candidate_iff.1 (State.candidate_of_nextHost hh)
        have hrotated : s.Orderly (t.setRotation h) := k.setSched
        rw [State.choose_host n hh hr hside]
        cases t.checkAccess h r.handle with
        | pass a => exact (hrotated.grantSlot (r := r) hr).setSched.setLine.setLine
        | stale | held g | deferred => exact ih hrotated.emptySlot.postAll

theorem State.Orderly.grant : s.Orderly t.grant := by
  unfold State.grant
  split
  · exact k.choose 5
  · exact k

/-! ### Deliveries (R87 to R90, R112 to R114, R142) -/

theorem State.Orderly.directoryTakes {x : Txn} {o : TxnOutcome} : s.Orderly (t.directoryTakes x o).1 := k.settles (t.directoryTakes_settles x o)

theorem State.Orderly.createDeferred {h : HostId} {x : Txn} : s.Orderly (t.createDeferred h x) := by
  unfold State.createDeferred
  split
  · refine k.setDeferred fun d n hd hp => .inr ?_
    obtain rfl := Option.some.inj hd
    obtain rfl := PollPhase.timing.inj hp
    exact Nat.le_add_right ..
  · exact k

omit k in
/-- The record that a poll leaves starts its timer now, or is the polled one (R112). -/
theorem State.pollEnds_dated {d g : Deferred} {o : TxnOutcome} {n m : Nat} (hg : (s.pollEnds d o n).1 = some g) (hp : g.phase = .timing m) :
    g = d ∨ s.time ≤ m := by
  have hgoes {d : Deferred} (hc : (s.continuePoll d n).1 = some g) : s.time ≤ m := by
    unfold State.continuePoll at hc
    split at hc
    · cases hc
    · obtain rfl := Option.some.inj hc
      obtain rfl := PollPhase.timing.inj hp
      exact Nat.le_add_right ..
  unfold State.pollEnds at hg
  split at hg
  · cases hg
  · exact .inr (hgoes hg)
  · cases hg
  · exact .inr (hgoes hg)
  · exact .inr (hgoes hg)
  all_goals exact .inl (Option.some.inj hg).symm

theorem State.Orderly.deliver {x : Txn} {o : TxnOutcome} : s.Orderly (t.deliver x o) := by
  have htakes := k.directoryTakes (x := x) (o := o)
  unfold State.deliver
  split
  · next h ho =>
    unfold State.deliverHost
    dsimp only
    have hemptied := htakes.emptySlot (h := h)
    split
    · exact hemptied.createDeferred.endIdlePass.postAll
    · exact hemptied.endIdlePass.postAll
  · unfold State.deliverPoller
    dsimp only
    split
    · split
      · next a ha d hd =>
        refine State.Orderly.postAll (State.Orderly.endIdlePass (htakes.setDeferred fun g m hg hp => ?_))
        rcases State.pollEnds_dated hg hp with rfl | hle
        · exact .inl ⟨g, hd, hp⟩
        · exact .inr hle
      · exact htakes.endIdlePass.postAll
    · exact htakes.postAll
  · unfold State.deliverSweep
    dsimp only
    split
    · exact htakes.advanceSweep.endIdlePass.postAll
    · exact htakes.postAll
  · exact k

theorem State.Orderly.finish {x : Txn} {o : TxnOutcome} {g : Nat} : s.Orderly (t.finish x o g) := State.Orderly.deliver k.setLine

theorem State.Orderly.attemptFails {x : Txn} {m : FailMark} {g : Nat} : s.Orderly (t.attemptFails x m g) := by
  unfold State.attemptFails
  dsimp only
  split
  · exact k.setLine
  · exact k.finish

theorem State.Orderly.answerJudged {x : Txn} {j : Judgement} : s.Orderly (t.answerJudged x j) := by
  unfold State.answerJudged
  split
  · have hgap : s.Orderly (t.toGap Config.gapBits none) := k.setLine
    exact (hgap.trans (State.engineDecides_orderly _ x.kind j)).endIdlePass.postAll
  · unfold State.accessAnswer
    split
    · exact k.attemptFails
    · exact k.attemptFails
    · split
      · exact k.setLine
      · exact k.setLine
      · exact k.finish

end

theorem TxnEffect.orderly {x : Txn} (he : TxnEffect s x t) : s.Orderly t := by
  have hrefl := State.Orderly.refl s
  cases he with
  | tokenEnded =>
    unfold State.tokenEnd
    split
    · have hparked : s.Orderly (s.setParked 0) := (State.settles_refl s).setParked.orderly
      exact hparked.setLine
    · exact hrefl.setLine
    · exact hrefl.setLine
  | receipt j =>
    unfold State.receiptIs
    split <;> exact hrefl.finish
  | failed => exact hrefl.attemptFails
  | burst data ok =>
    unfold State.burstJudged
    split
    · exact hrefl.finish
    · exact hrefl.attemptFails
  | burstSent => exact hrefl.setLine
  | contention u =>
    have hgap : s.Orderly (s.toGap Config.gapBits none) := hrefl.setLine
    exact (hgap.settles (State.contentionResult_settles _ u)).endIdlePass.postAll

/-! ### Line resets (R26, R143, R170 to R172) -/

/-- A line reset leaves no claim and no deferred record (R26, R117, R134). -/
theorem State.resetDirectory_records (s : State) (a : Addr) : (s.resetDirectory.entry a).claim = none ∧ (s.resetDirectory.entry a).deferred = none := by
  have hmap {t : State} : ((t.mapEntries fun e => if e.state = .free then { e with claim := none, deferred := none } else e.freed).entry a).claim = none ∧
      ((t.mapEntries fun e => if e.state = .free then { e with claim := none, deferred := none } else e.freed).entry a).deferred = none := by
    rw [State.entry_mapEntries]
    split <;> exact ⟨rfl, rfl⟩
  unfold State.resetDirectory
  dsimp only
  split <;> exact hmap

theorem State.resetBegun_orderly (s : State) (reason : ResetReason) (qs : List Requester) : s.Orderly (s.resetBegun reason qs) := by
  have hrecords := s.resetDirectory_records
  have hstate := s.resetDirectory_state
  have hreset : s.Orderly s.resetDirectory := by
    obtain ⟨d, hd⟩ := s.resetDirectory_rest
    rw [hd] at hrecords hstate ⊢
    refine .of_entry (fun _ => rfl) rfl rfl rfl (fun a => ?_) fun _ a c hc => ?_
    · obtain ⟨hc, hf⟩ := hrecords a
      exact .of_records (.inr hc) (.inr hf) fun n hs => by rw [hstate a] at hs; cases hs
    · rw [(hrecords a).1] at hc
      cases hc
  exact hreset.setEngine.setWalk.setLine

theorem State.Orderly.requestLineReset (k : s.Orderly t) {h : HostId} {tag : Tag} : s.Orderly (t.requestLineReset h tag) := by
  unfold State.requestLineReset
  split
  · exact k.setLine
  · rw [State.beginLineReset_eq]
    exact (k.trans (t.resetBegun_orderly _ _)).postAll

theorem ResetEffect.orderly {lr : LineReset} (hx : ResetEffect s lr t) : s.Orderly t := by
  have hrefl := State.Orderly.refl s
  cases hx with
  | cut hp =>
    rw [State.cut_eq]
    have hbegun : s.Orderly (s.holdBegun lr) := hrefl.setLine
    split
    · exact hbegun.deliver
    · exact hbegun
  | held n hp => exact hrefl.setLine.setLine
  | waited n hp => exact hrefl.setLine.setLine.setLine
  | sent hp => exact State.Orderly.postAll (State.Orderly.setLine (State.Orderly.setLine hrefl.setLine))

/-! ### Expiries and configurations (R11, R110, R128, R129, R138, R167) -/

theorem State.freeRecorded_orderly (s : State) (a : Addr) : s.Orderly (s.freeRecorded a) := by
  have hfreed : s.Orderly ((s.setRecalls (joinEntry s.dir.recalls (s.entry a) a)).setEntry a (s.entry a).freed) := by
    have hset : s.Orderly (s.setRecalls (joinEntry s.dir.recalls (s.entry a) a)) := (State.settles_refl s).setRecalls.orderly
    exact hset.setEntry (.of_records (.inr rfl) (.inr rfl) nofun) fun _ c hc => by cases hc
  exact hfreed.settles (State.settles_refl _).wantIfParked

theorem State.Orderly.endLease (k : s.Orderly t) : s.Orderly (t.endLease a) := by
  unfold State.endLease
  split
  · next c hc => exact (k.handOver hc).postAll
  · exact k

theorem State.Orderly.endWait (k : s.Orderly t) {h : HostId} : s.Orderly (t.endWait a h) := by
  unfold State.endWait
  split
  · next c hc =>
    split
    · exact (k.filterWaits hc _).post
    · exact k
  · exact k

theorem State.Orderly.sweepDue (k : s.Orderly t) : s.Orderly t.sweepDue := by
  have hstart : t.Orderly { t with sweep := { t.sweep with timer := some (t.time + t.config.sweepInterval) } } :=
    ⟨fun _ => .refl _, rfl, rfl, fun n hn => .inr (by obtain rfl := Option.some.inj hn; exact Nat.le_add_right ..), fun _ => .refl _ _, id⟩
  unfold State.sweepDue
  dsimp only
  refine State.Orderly.grant ?_
  split
  · exact k.trans hstart
  · exact (k.trans hstart).setWalk.endIdlePass

theorem ExpiryEffect.orderly (hx : ExpiryEffect s t) : s.Orderly t := by
  have hrefl := State.Orderly.refl s
  cases hx with
  | quarantine a =>
    rw [State.leaveQuarantine_eq]
    exact State.Orderly.grant (State.Orderly.post ((s.freeRecorded_orderly a).settles (State.settles_refl _).bumpSerial))
  | lease a => exact hrefl.endLease
  | wait a h => exact hrefl.endWait
  | poll a =>
    unfold State.pollDueAt
    exact (hrefl.setPhase (p := .due) nofun).grant
  | sweep => exact hrefl.sweepDue

theorem Configured.orderly (hx : Configured s t) : s.Orderly t := by
  have hrefl := State.Orderly.refl s
  cases hx with
  | store f => exact hrefl.modConfig
  | sweep v hv =>
    refine ⟨fun _ => .refl _, rfl, rfl, fun n hn => ?_, fun _ => .refl _ _, id⟩
    change (if v = 0 then none else if s.sweep.timer.isNone then some (s.time + v) else s.sweep.timer) = some n at hn
    split at hn
    · cases hn
    · split at hn
      · obtain rfl := Option.some.inj hn
        exact .inr (Nat.le_add_right ..)
      · exact .inl hn
  | missLimit v hv =>
    have hentry (a : Addr) : ((s.modConfig fun p => { p with missLimit := v }).applyMissLimit v).entry a = (s.entry a).lowerMiss v :=
      State.applyMissLimit_entry _ v a
    have hrest : ∃ d, (s.modConfig fun p => { p with missLimit := v }).applyMissLimit v =
        { s with config := { s.config with missLimit := v }, dir := d } := by
      unfold State.applyMissLimit
      dsimp only
      split <;> exact ⟨_, rfl⟩
    have hlower (e : Entry) : e.Dated s.time (e.lowerMiss v) ∧ (e.lowerMiss v).claim = e.claim := by
      unfold Entry.lowerMiss
      split
      · refine ⟨.of_records (.inl rfl) (.inl rfl) fun n hs => ?_, rfl⟩
        dsimp only at hs
        split at hs <;> cases hs
      · exact ⟨.refl _ _, rfl⟩
    obtain ⟨d, hd⟩ := hrest
    rw [hd] at hentry ⊢
    refine .of_entry (fun _ => rfl) rfl rfl rfl (fun a => ?_) fun h a c hc => h a c ?_
    · rw [hentry]
      exact (hlower _).1
    · rw [hentry, (hlower _).2] at hc
      exact hc

/-! ### The end of a gap (R29, R50) -/

theorem State.Orderly.gapEnd (k : s.Orderly t) : s.Orderly t.gapEnd := by
  unfold State.gapEnd
  split
  · exact k.beginAttempt
  · split
    · unfold State.roundGapEnd
      split
      · exact (State.Orderly.setEngine k).grant
      · exact State.Orderly.sendRoundToken (State.Orderly.setEngine k)
    · exact k.grant

end

end Sys2Proof.Machine
end

section
/-! SUPPORT. Exchanges, takes, resets and the time base keep the laws of the ports, of the claims and of the timers (R119, R151, R157,
R165, R175). -/

namespace Sys2Proof.Machine

set_option Elab.async false

open Sys2Proof

/-- A change that keeps the laws of the ports, of the claims and of the timers, each by itself. -/
structure State.Lawful (s t : State) : Prop where
  ports : s.PortsWf → t.PortsWf
  held : s.HeldPortsEmpty → t.HeldPortsEmpty
  claims : s.ClaimsWf → t.ClaimsWf
  timers : s.TimerLaw → t.TimerLaw

section
variable {s t u : State} {h : HostId}

theorem State.Lawful.refl (s : State) : s.Lawful s := ⟨id, id, id, id⟩

theorem State.Lawful.trans (h : s.Lawful t) (k : t.Lawful u) : s.Lawful u :=
  ⟨k.ports ∘ h.ports, k.held ∘ h.held, k.claims ∘ h.claims, k.timers ∘ h.timers⟩

theorem State.Orderly.lawful (k : s.Orderly t) : s.Lawful t := ⟨k.portsWf, k.heldPortsEmpty, k.claims, k.timerLaw⟩

/-- A port is changed from outside. -/
theorem State.Lawful.setPort (k : s.Lawful t) {p : Port} (hw : s.PortsWf → p.Wf) (hh : s.HeldPortsEmpty → t.inReset = false → p.EmptyIfHeld) :
    s.Lawful (t.setPort h p) := by
  refine ⟨fun hs g => ?_, fun hs => State.heldPortsEmpty_iff.2 fun hr g => ?_, k.claims, k.timers⟩
  · rw [State.port_setPort]
    split
    · exact hw hs
    · exact k.ports hs g
  · rw [State.port_setPort]
    split
    · exact hh hs hr
    · exact State.heldPortsEmpty_iff.1 (k.held hs) hr g

/-- What a port gives back, its mask, and the rise of its pin are read by none of the laws. -/
theorem State.Lawful.giveBack (k : s.Lawful t) {bs : List Byte} : s.Lawful (t.giveBack h bs) :=
  k.setPort (fun hs => k.ports hs h) fun hs hr => State.heldPortsEmpty_iff.1 (k.held hs) hr h

theorem State.Lawful.released (k : s.Lawful t) : s.Lawful (t.setHeld h false) :=
  k.setPort (fun hs => k.ports hs h) fun _ _ => .of_free rfl

/-! ### Exchanges and resets of a port (R151 to R165) -/

theorem Port.Wf.unowe {p : Port} (hp : p.Wf) {q : Port} {tag : Tag} (ho : q.owed = p.owed) (hb : q.outbound = p.outbound)
    (hv : q.overrun = p.overrun) : (q.unowe tag).Wf := by
  obtain ⟨hlen, hnodup, hsum, hover⟩ := hp
  have hle := List.length_erase_le (l := p.owed) (a := tag)
  refine ⟨?_, ?_, ?_, ?_⟩ <;> simp only [Port.unowe, ho, hb, hv]
  · omega
  · exact hnodup.erase tag
  · omega
  · exact hover

theorem Port.Wf.accept {p : Port} (hp : p.Wf) {r : Request} (ho : p.owed.length < 8) (hs : p.outbound.length + p.owed.length < 24)
    (ht : r.tag ∉ p.owed) : (p.accept r).Wf := by
  obtain ⟨-, hnodup, -, hover⟩ := hp
  refine ⟨?_, ?_, ?_, hover⟩
  · simp only [Port.accept, List.length_append, List.length_singleton]
    omega
  · refine List.nodup_append.2 ⟨hnodup, by simp, fun x hx y hy he => ht ?_⟩
    obtain rfl := List.mem_singleton.1 hy
    exact he ▸ hx
  · simp only [Port.accept, List.length_append, List.length_singleton]
    omega

theorem Port.Wf.fetched {p : Port} (hp : p.Wf) {i : Item} {rest : List Item} (ho : p.outbound = i :: rest) (serial : BitVec 16) :
    (p.fetched serial rest).Wf := by
  obtain ⟨hlen, hnodup, hsum, hover⟩ := hp
  rw [ho, List.length_cons] at hsum
  unfold Port.fetched
  split
  · refine ⟨hlen, hnodup, ?_, nofun⟩
    simp only [List.length_append, List.length_singleton]
    omega
  · next hv =>
    refine ⟨hlen, hnodup, ?_, fun h => absurd h hv⟩
    change rest.length + p.owed.length ≤ 24
    omega

theorem Port.afterReset_candidate (p : Port) : p.afterReset.candidate = false := by
  unfold Port.afterReset Port.candidate
  rcases p.slot with _ | ⟨r, _ | _⟩ <;> simp [Option.filter]

theorem Port.afterReset_emptyIfHeld (p : Port) : p.afterReset.EmptyIfHeld := fun _ => ⟨rfl, rfl, rfl, rfl, p.afterReset_candidate⟩

theorem Port.afterReset_wf (p : Port) : p.afterReset.Wf := by
  refine ⟨?_, ?_, ?_, ?_⟩ <;> simp [Port.afterReset]

/-- A reset of a port leaves each claim in order, its lease running or begun now (R135). -/
theorem State.claimAfterReset_orderly (s : State) (h : HostId) (a : Addr) :
    (s.entry a).Dated s.time { s.entry a with claim := (s.claimAfterReset h a).1 } ∧
    ((∀ c, (s.entry a).claim = some c → c.Wf) → ∀ c, (s.claimAfterReset h a).1 = some c → c.Wf) := by
  cases hc : (s.entry a).claim with
  | none =>
    rw [State.claimAfterReset_none hc]
    exact ⟨.setClaim nofun nofun, fun _ => nofun⟩
  | some c =>
    by_cases hh : c.holder = h
    · rw [State.claimAfterReset_held hc hh]
      exact ⟨State.nextHolder_dated hc fun w hw => List.mem_of_mem_filter hw,
        fun hw _ hd => State.nextHolder_wf (hw c rfl) List.filter_sublist hd⟩
    · rw [State.claimAfterReset_other hc hh]
      refine ⟨.setClaim (fun d hd => .inl ⟨c, hc, ?_⟩) fun d w hd hw => .inl ⟨c, hc, ?_⟩, fun hw d hd => ?_⟩
      · obtain rfl := Option.some.inj hd
        rfl
      · obtain rfl := Option.some.inj hd
        exact List.mem_of_mem_filter hw
      · obtain rfl := Option.some.inj hd
        exact (hw c rfl).filter _

/-- Beside the port itself its reset touches nothing that the laws of the ports read. -/
theorem State.portCleared_apart (s : State) (h : HostId) : ∃ v : State, s.portCleared h = v.setPort h (s.port h).afterReset ∧
    (∀ g, v.port g = s.port g) ∧ v.inReset = s.inReset ∧ v.time = s.time ∧ v.sweep = s.sweep := by
  obtain ⟨es, hs⟩ := s.portCleared_rest (h := h)
  exact ⟨_, hs, fun _ => rfl, rfl, rfl, rfl⟩

theorem State.portCleared_lawful (s : State) (h : HostId) : s.Lawful (s.portCleared h) := by
  have hdated (a : Addr) : (s.entry a).Dated s.time ((s.portCleared h).entry a) := by
    rw [s.portCleared_entry h a]
    refine (s.claimAfterReset_orderly h a).1.trans (.setDeferred fun d n hd hp => .inl ?_)
    obtain ⟨g, hg, rfl⟩ := Option.map_eq_some_iff.1 hd
    refine ⟨g, hg, ?_⟩
    split at hp <;> exact hp
  have hclaims (hw : s.ClaimsWf) (a : Addr) (c : Claim) (hc : ((s.portCleared h).entry a).claim = some c) : c.Wf := by
    rw [s.portCleared_entry h a] at hc
    exact (s.claimAfterReset_orderly h a).2 (hw a) c hc
  obtain ⟨v, hv, hp, hr, ht, hsw⟩ := s.portCleared_apart h
  rw [hv] at hdated hclaims ⊢
  exact State.Lawful.setPort (State.Orderly.lawful (.of_entry hp hr ht hsw hdated hclaims)) (fun _ => (s.port h).afterReset_wf)
    fun _ _ => (s.port h).afterReset_emptyIfHeld

/-- The handovers of a port reset place nothing in the port itself (R135). -/
theorem State.resetPort_port_self (s : State) (h : HostId) : (s.resetPort h).port h = (s.port h).afterReset := by
  rw [State.resetPort_eq, State.postAll_port_of_other (s.resetClaims_items h), State.portCleared_port_self]

theorem State.resetPort_lawful (s : State) (h : HostId) : s.Lawful (s.resetPort h) := by
  rw [State.resetPort_eq]
  exact (s.portCleared_lawful h).trans ((State.Orderly.refl _).postAll).lawful

theorem ExchangeEffect.lawful (hx : ExchangeEffect s h t) (hh : (s.port h).held = false) : s.Lawful t := by
  have hrefl := State.Lawful.refl s
  cases hx with
  | nothing => exact hrefl
  | accepted r ho hs ht => exact hrefl.setPort (fun hp => (hp h).accept ho hs ht) fun _ _ => .of_free hh
  | fetched i rest ho =>
    refine hrefl.setPort (fun hp => (hp h).fetched ho _) fun _ _ => .of_free ?_
    unfold Port.fetched
    split <;> exact hh
  | cancelled tag =>
    generalize hu : (s.cancelled h tag).1 = u
    cases hu ▸ s.cancelled_effect h tag with
    | queued => exact hrefl.setPort (fun hp => (hp h).unowe rfl rfl rfl) fun _ _ => .of_free hh
    | slotted => exact hrefl.setPort (fun hp => (hp h).unowe rfl rfl rfl) fun _ _ => .of_free hh
    | waiting =>
      have hdrop : s.Orderly (s.mapEntries fun e => e.dropWait h tag) := by
        refine .of_entry (fun _ => rfl) rfl rfl rfl (fun a => ?_) fun hw a c hc => ?_
        · rw [State.entry_mapEntries]
          refine .setClaim (fun d hd => .inl ?_) fun d w hd hw => .inl ?_
          · obtain ⟨c, hc, rfl⟩ := Option.map_eq_some_iff.1 hd
            exact ⟨c, hc, rfl⟩
          · obtain ⟨c, hc, rfl⟩ := Option.map_eq_some_iff.1 hd
            exact ⟨c, hc, List.mem_of_mem_filter hw⟩
        · rw [State.entry_mapEntries] at hc
          obtain ⟨d, hd, rfl⟩ := Option.map_eq_some_iff.1 hc
          exact (hw a d hd).filter _
      exact hdrop.lawful.setPort (fun hp => (hp h).unowe rfl rfl rfl) fun _ _ => .of_free hh
    | nothing => exact hrefl
  | portReset => exact s.resetPort_lawful h

/-! ### Takes (R119, R122 to R127, R147, R154) -/

/-- A port with a request is not held by HRSTn (R165). -/
theorem State.held_of_atHead {r : Request} {rest : List Request} (hq : s.AtHead h r rest) (hs : s.HeldPortsEmpty) : (s.port h).held = false := by
  by_contra hh
  obtain ⟨hqueue, -⟩ := hs hq.1 h (by simpa using hh)
  rw [hq.2] at hqueue
  cases hqueue

theorem State.taken_lawful {r : Request} {rest : List Request} (hq : s.AtHead h r rest) : s.Lawful (s.taken h rest) :=
  (State.Lawful.refl s).setPort (fun hp => hp h) fun hs _ => .of_free (State.held_of_atHead hq hs)

theorem State.Orderly.renewed (k : s.Orderly t) {a : Addr} {c : Claim} (hc : (t.entry a).claim = some c) (n : Nat) :
    s.Orderly (t.setClaim a { c with expires := t.time + n }) := by
  refine k.setEntry (.setClaim (fun d hd => .inr ?_) fun d w hd hw => .inl ⟨c, hc, ?_⟩) fun hw d hd => ?_
  · obtain rfl := Option.some.inj hd
    exact Nat.le_add_right ..
  · obtain rfl := Option.some.inj hd
    exact hw
  · obtain rfl := Option.some.inj hd
    exact hw c hc

/-- What follows a take; `u` is the state before it. -/
theorem TakeEffect.lawful {r : Request} (hx : TakeEffect s h r t) (k : u.Lawful s) (hh : u.HeldPortsEmpty → (s.port h).held = false) :
    u.Lawful t := by
  have hrefl := State.Orderly.refl s
  cases hx with
  | replied o b => exact k.trans hrefl.answer.lawful
  | repliedClaim o b => exact k.trans hrefl.answerClaim.lawful
  | forgot =>
    refine k.trans (State.Orderly.lawful (State.Orderly.grant ?_))
    unfold forgetRequest
    dsimp only
    split
    · exact (State.settles_refl s).setRecalls.bumpSerial.orderly.answer
    · split
      · next a ha =>
        split
        · have hfreed : s.Orderly (s.setEntry a (s.entry a).freed) :=
            hrefl.setEntry (.of_records (.inr rfl) (.inr rfl) nofun) fun _ c hc => by cases hc
          exact (hfreed.settles (State.settles_refl _).bumpSerial.wantIfParked).answer.post
        · exact hrefl.answer
      · exact hrefl.answer
  | claimed a lease o b hb hn =>
    have hclaim : s.Orderly (s.setClaim a { holder := h, expires := s.time + lease, waits := [] }) := by
      refine hrefl.setEntry (.setClaim (fun d hd => .inr ?_) fun d w hd hw => ?_) fun _ d hd => ?_
      · obtain rfl := Option.some.inj hd
        exact Nat.le_add_right ..
      · obtain rfl := Option.some.inj hd
        cases hw
      · obtain rfl := Option.some.inj hd
        exact ⟨Nat.zero_le 3, List.nodup_nil, nofun⟩
    exact k.trans hclaim.answerClaim.lawful
  | renewed a c lease o b hb hc => exact k.trans (hrefl.renewed hc lease).answerClaim.lawful
  | waits a c hb hc hne hw =>
    refine k.trans (State.Orderly.lawful (hrefl.setEntry (.setClaim (fun d hd => .inl ⟨c, hc, ?_⟩) fun d w hd hwd => ?_) fun hwf d hd => ?_))
    · obtain rfl := Option.some.inj hd
      rfl
    · obtain rfl := Option.some.inj hd
      rcases List.mem_append.1 hwd with hm | hm
      · exact .inl ⟨c, hc, hm⟩
      · obtain rfl := List.mem_singleton.1 hm
        exact .inr (Nat.le_add_right ..)
    · obtain rfl := Option.some.inj hd
      exact (hwf c hc).append hne hw
  | handedOver a c o b ps hb hc hp => exact k.trans (hrefl.handOver hc).answerClaim.postAll.lawful
  | slotted l hs =>
    have hslot : u.Lawful (s.setSlot h (some ⟨lineRequestOf l r, false⟩)) :=
      k.setPort (fun hp => k.ports hp h) fun hs _ => .of_free (hh hs)
    exact hslot.trans (State.Orderly.refl _).grant.lawful
  | enumerated o b => exact k.trans (State.Orderly.grant (State.Orderly.answer hrefl.setEngine)).lawful
  | subscribed m o b =>
    have hmask : u.Lawful (s.setPort h { s.port h with mask := m }) :=
      k.setPort (fun hp => k.ports hp h) fun hs _ => .of_free (hh hs)
    exact hmask.trans (State.Orderly.refl _).answer.lawful
  | lineReset => exact k.trans hrefl.requestLineReset.lawful

/-! ### The end of power-on reset (R169) -/

theorem State.powerOn_lawful (s : State) (straps : BitVec 4) : s.Lawful (s.powerOn straps) := by
  refine ⟨fun _ g => ?_, fun _ => State.heldPortsEmpty_iff.2 fun _ g => ?_, fun _ a c hc => ?_, fun _ n c _ => Nat.zero_le n⟩
  · rw [State.powerOn_port]
    exact ⟨Nat.zero_le 8, List.nodup_nil, Nat.zero_le 24, nofun⟩
  · rw [State.powerOn_port]
    exact fun _ => ⟨rfl, rfl, rfl, rfl, rfl⟩
  · rw [State.powerOn_entry] at hc
    cases hc

/-! ### Every event -/

/-- The time base comes to the step of a timer that no other precedes (R175). -/
theorem State.elapseTo_lawful {n : Nat} (hn : s.Reaches n) : s.Lawful (s.elapseTo n) :=
  ⟨id, id, id, fun _ m c hr => hn.2 m c hr⟩

theorem Event.lawful {c : Instr} (he : Event s c t) : s.Lawful t := by
  have hrefl := State.Orderly.refl s
  cases he with
  | ignored => exact .refl s
  | resetAsserted => exact ⟨id, (fun _ hr => nomatch hr), id, id⟩
  | resetEnded straps =>
    rw [State.beginLineReset_eq]
    exact (s.powerOn_lawful straps).trans (State.Orderly.postAll (State.resetBegun_orderly _ _ _)).lawful
  | exchanged c bytes hr hh hx => exact (hx.lawful hh).giveBack
  | pinFell c h hr =>
    refine (State.Lawful.refl s).setPort (fun hp => hp h) fun _ hn => ?_
    rw [hr] at hn
    cases hn
  | portFell c h hr hh =>
    have hport : ((s.resetPort h).giveBack h []).port h = { (s.port h).afterReset with hdo := [] } := by
      rw [State.giveBack, State.port_setPort_same, State.resetPort_port_self]
    have hback : s.Lawful ((s.resetPort h).giveBack h []) := (s.resetPort_lawful h).giveBack
    generalize (s.resetPort h).giveBack h [] = v at hport hback
    refine hback.setPort (fun hp => hback.ports hp h) fun _ _ _ => ?_
    rw [hport]
    exact ⟨rfl, rfl, rfl, rfl, (s.port h).afterReset_candidate⟩
  | pinRose c h => exact (State.Lawful.refl s).released
  | @took c h r rest t hq hx =>
    have hport : ((s.taken h rest).port h).held = (s.port h).held := by rw [State.taken, State.port_setPort_same]
    exact hx.lawful (State.taken_lawful hq) fun hs => hport.trans (State.held_of_atHead hq hs)
  | configured o b hq hc hm hx => exact (State.taken_lawful hq).trans hx.orderly.answer.lawful
  | resetting c hr hlr hx => exact hx.orderly.lawful
  | gapEnded c g =>
    have hended : s.Orderly (s.endGap g) := hrefl.setLine
    exact hended.gapEnd.lawful
  | startSent c n =>
    have hsent : s.Orderly (s.setStart .sent) := hrefl.setLine
    exact hsent.setLine.lawful
  | @onLine c x t n hr hc hx he =>
    have hbits : s.Orderly (s.addBits n) := hrefl.setLine
    exact (hbits.trans he.orderly).lawful
  | answerMissed c n =>
    have hbits : s.Orderly (s.addBits n) := hrefl.setLine
    exact hbits.answerJudged.lawful
  | answerCame k bits n =>
    have hbits : s.Orderly (s.addBits n) := hrefl.setLine
    exact hbits.answerJudged.lawful
  | joinReported c =>
    have hgrant : s.Orderly s.setWanted.grant := (State.settles_refl s).setWanted.orderly.grant
    unfold State.reportJoin
    dsimp only
    split
    · exact hgrant.setLine.lawful
    · exact hgrant.lawful
  | expired c hr hn hx => exact (State.elapseTo_lawful hn).trans hx.orderly.lawful

theorem State.tick_lawful (hd : s.dueExpiry = none) : s.Lawful s.tick := by
  unfold State.tick
  split
  · exact .refl s
  · next hr =>
    refine ⟨id, id, id, fun hs n c hn => ?_⟩
    have hne : s.time ≠ n := fun he => State.dueExpiry_none hd (by simpa using hr) c (he ▸ hn)
    have hle := hs n c hn
    change s.time + 1 ≤ n
    omega

end

end Sys2Proof.Machine
end

section
/-! SUPPORT. The owed tags of a host, counted against its open requests (R151, R157, R160, R172). -/

namespace Sys2Proof.Machine

set_option Elab.async false

open Sys2Proof

/-! ### The account of a host's tags -/

/-- How many requesters of a line reset are host `h`'s request with this tag (R172). -/
def Line.awaits (l : Line) (h : HostId) (tag : Tag) : Nat :=
  match l.reset with
  | some lr => lr.requesters.countP fun q => q.host = h ∧ q.tag = tag
  | none => 0

/-- Whether the transaction in progress is host `h`'s and its reply is dropped (R90). -/
def Line.drops (l : Line) (h : HostId) : Bool := l.record.any fun t => t.owner == .host h && t.replyDropped

/-- Whether a slot whose reply is or is not dropped holds an open request with this tag, as a number (R90, R93). -/
def Slot.opens (sl : Slot) (dropped : Bool) (tag : Tag) : Nat := if sl.granted && dropped then 0 else if sl.req.tag = tag then 1 else 0

/-- How often host `h`'s request with this tag stands open in its slot. -/
def State.slotOpens (s : State) (h : HostId) (tag : Tag) : Nat :=
  match (s.port h).slot with
  | some sl => sl.opens (s.line.drops h) tag
  | none => 0

/-- How many requests with this tag wait in a port's queue. -/
def Port.queues (p : Port) (tag : Tag) : Nat := p.queue.countP fun r => r.tag = tag

/-- Each host owes the tags of its requests in the queue, in the directory and in a line reset, and those that `f` counts. -/
def State.Accounts (s : State) (f : HostId → Tag → Nat) : Prop :=
  ∀ h tag, (s.port h).owed.count tag = (s.port h).queues tag + s.opens h tag + s.line.awaits h tag + f h tag

/-- Each host owes the tags of its open requests. -/
def State.Owing (s : State) : Prop := s.Accounts s.slotOpens

theorem sum_map_allAddrs (f : Addr → Nat) : (allAddrs.map f).sum = ∑ a, f a := by
  rw [allAddrs, ← List.ofFn_eq_map, List.sum_ofFn]

theorem count_flatMap_allAddrs (f : Addr → List Tag) (tag : Tag) : (allAddrs.flatMap f).count tag = ∑ a, (f a).count tag := by
  rw [List.count_flatMap, ← sum_map_allAddrs]
  rfl

theorem count_map_filter {α : Type} (l : List α) (p : α → Prop) [DecidablePred p] (t : α → Tag) (tag : Tag) :
    ((l.filter fun x => p x).map t).count tag = l.countP fun x => p x ∧ t x = tag := by
  rw [List.count, List.countP_map, List.countP_filter]
  refine List.countP_congr fun x _ => ?_
  simp [and_comm]

theorem State.count_openTags (s : State) (h : HostId) (tag : Tag) :
    (s.openTags h).count tag = (s.port h).queues tag + s.opens h tag + s.line.awaits h tag + s.slotOpens h tag := by
  have hqueue : ((s.port h).queue.map fun r => r.tag).count tag = (s.port h).queues tag := by
    rw [Port.queues, List.count, List.countP_map]
    exact List.countP_congr fun r _ => by simp
  have hopens : s.opens h tag = (∑ a, (s.entry a).waitsOf h tag) + ∑ a, (s.entry a).defersOf h tag := Finset.sum_add_distrib
  unfold State.openTags
  simp only [List.count_append, count_flatMap_allAddrs, hqueue, hopens]
  have hsum {q a b c d a' b' c' d' : Nat} (ha : a = a') (hb : b = b') (hc : c = c') (hd : d = d') :
      q + a + b + c + d = q + (b' + c') + d' + a' := by omega
  refine hsum ?_ (Finset.sum_congr rfl fun a _ => ?_) (Finset.sum_congr rfl fun a _ => ?_) ?_
  · unfold State.slotOpens Slot.opens Line.drops
    cases (s.port h).slot with
    | none => rfl
    | some sl =>
      dsimp only
      split
      · rfl
      · simp [List.count_singleton]
  · unfold Entry.waitsOf
    cases (s.entry a).claim with
    | none => rfl
    | some c => exact count_map_filter c.waits _ _ tag
  · unfold Entry.defersOf
    cases (s.entry a).deferred with
    | none => rfl
    | some d =>
      dsimp only
      by_cases ho : d.owner = some h <;> simp [ho, List.count_singleton]
  · unfold Line.awaits
    cases s.line.reset with
    | none => rfl
    | some lr => exact count_map_filter lr.requesters _ _ tag

/-- With distinct owed tags at every port, the law of the owed tags is the account. -/
theorem State.owedLaw_iff {s : State} (hp : s.PortsWf) : s.OwedLaw ↔ s.Owing := by
  have hnodup (h : HostId) : (s.port h).owed.Nodup := by
    obtain ⟨-, hn, -⟩ := hp h
    exact hn
  constructor
  · intro hl h tag
    obtain ⟨hopen, hmem⟩ := hl h
    rw [← State.count_openTags, (hnodup h).count, hopen.count]
    simp only [hmem tag]
  · intro ho h
    have hcount (tag : Tag) : (s.port h).owed.count tag = (s.openTags h).count tag := by rw [State.count_openTags, ho h tag]
    refine ⟨List.nodup_iff_count_le_one.2 fun tag => ?_, fun tag => ?_⟩
    · rw [← hcount]
      exact List.nodup_iff_count_le_one.1 (hnodup h) tag
    · rw [← List.count_pos_iff, hcount, List.count_pos_iff]

/-! ### Replies settle the account (R160) -/

section
variable {s t : State} {f g : HostId → Tag → Nat}

theorem State.Accounts.congr (k : s.Accounts f) (hfg : ∀ h tag, f h tag = g h tag) : s.Accounts g := fun h tag => by
  rw [← hfg]
  exact k h tag

/-- Each reply removes one owed tag (R157, R160). -/
theorem State.Accounts.post {p : Post} (k : s.Accounts fun h tag => f h tag + repliesTo [p] h tag) : (s.post p).Accounts f := by
  intro h tag
  have hsame : (s.post p).opens h tag = s.opens h tag := State.opens_congr fun a => by rw [State.post_entry]
  have hqueue : ((s.post p).port h).queues tag = (s.port h).queues tag := by rw [Port.queues, State.post_port_queue, Port.queues]
  rw [hsame, hqueue, State.post_line]
  have hbefore : _ = _ + (f h tag + repliesTo [p] h tag) := k h tag
  cases p with
  | reply x y kind o q b =>
    rw [repliesTo_reply, repliesTo_nil] at hbefore
    simp only [State.post, State.port_setPort]
    split
    · next hx =>
      subst hx
      rcases (s.port h).placeReply_cases ⟨y, kind, o, q, s.dir.serial, b⟩ with ⟨hm, he⟩ | ⟨hm, he⟩
      · rw [he]
        dsimp only at hm ⊢
        by_cases hy : y = tag
        · subst hy
          rw [List.count_erase_self]
          simp only [and_self, if_true] at hbefore
          omega
        · rw [List.count_erase_of_ne (Ne.symm hy)]
          simp only [hy, and_false, if_false] at hbefore
          omega
      · rw [he]
        dsimp only at hm
        by_cases hy : y = tag
        · subst hy
          rw [List.count_eq_zero_of_not_mem hm] at hbefore
          simp only [and_self, if_true] at hbefore
          omega
        · simp only [hy, and_false, if_false] at hbefore
          omega
    · next hx =>
      simp only [Ne.symm hx, false_and, if_false] at hbefore
      omega
  | notice b =>
    simp only [State.post, State.port_offerAll]
    split
    · rw [Port.offer_owed]
      exact hbefore
    · exact hbefore
  | noticeTo x b =>
    simp only [State.post, State.port_setPort]
    split
    · next hx =>
      rw [Port.offer_owed, ← hx]
      exact hbefore
    · exact hbefore

theorem State.Accounts.postAll {ps : List Post} (k : s.Accounts fun h tag => f h tag + repliesTo ps h tag) : (s.postAll ps).Accounts f := by
  induction ps generalizing s with
  | nil => exact k.congr fun _ _ => rfl
  | cons p ps ih =>
    refine ih (State.Accounts.post (k.congr fun h tag => ?_))
    rw [← List.singleton_append, repliesTo_append]
    omega

theorem State.slotOpens_congr {h : HostId} (hs : (t.port h).slot = (s.port h).slot) (hd : t.line.drops h = s.line.drops h) (tag : Tag) :
    t.slotOpens h tag = s.slotOpens h tag := by
  rw [State.slotOpens, hs, hd]
  rfl

theorem State.slotOpens_postAll (s : State) (ps : List Post) (h : HostId) (tag : Tag) : (s.postAll ps).slotOpens h tag = s.slotOpens h tag :=
  State.slotOpens_congr (s.postAll_port_slot ps h) (by rw [State.postAll_line]) tag

/-- The items of an event bring the account to rest. -/
theorem State.Owing.of_postAll {ps : List Post} (k : s.Accounts fun h tag => s.slotOpens h tag + repliesTo ps h tag) : (s.postAll ps).Owing :=
  State.Accounts.congr k.postAll fun h tag => (s.slotOpens_postAll ps h tag).symm

/-! ### Changes that carry the account -/

/-- Ports and line keep their open requests; those that leave the directory are answered among the items. -/
structure State.Carries (s : State) (ps : List Post) (t : State) : Prop where
  owed : ∀ h, (t.port h).owed = (s.port h).owed
  queue : ∀ h, (t.port h).queue = (s.port h).queue
  awaits : ∀ h tag, t.line.awaits h tag = s.line.awaits h tag
  opens : ∀ h tag, s.opens h tag = t.opens h tag + repliesTo ps h tag

theorem State.Carries.accounts {ps : List Post} (k : s.Carries ps t) (h : s.Accounts f) : t.Accounts fun g tag => f g tag + repliesTo ps g tag := by
  intro g tag
  have hs := h g tag
  have ho := k.opens g tag
  have hq : (t.port g).queues tag = (s.port g).queues tag := by rw [Port.queues, k.queue, Port.queues]
  rw [k.owed, hq, k.awaits]
  dsimp only
  omega

theorem State.Settles.carries {ps : List Post} (k : s.Settles ps t) (ht : ∀ a, (s.entry a).Tidy) : s.Carries ps t :=
  ⟨fun h => by rw [k.within.port], fun h => by rw [k.within.port], fun _ _ => by rw [k.within.line], k.opens ht⟩

theorem State.Carries.of_same (ho : ∀ h, (t.port h).owed = (s.port h).owed := by intro; rfl)
    (hq : ∀ h, (t.port h).queue = (s.port h).queue := by intro; rfl) (ha : t.line.reset = s.line.reset := by rfl)
    (he : ∀ a, t.entry a = s.entry a := by intro; rfl) : s.Carries [] t where
  owed := ho
  queue := hq
  awaits _ _ := by rw [Line.awaits, ha, Line.awaits]
  opens h tag := by rw [State.opens_congr (s := s) (t := t) fun a => by rw [he], repliesTo_nil, Nat.add_zero]

/-- A change that leaves every open request where it is. -/
theorem State.Owing.same (h : s.Owing) (k : s.Carries [] t) (hs : ∀ g tag, t.slotOpens g tag = s.slotOpens g tag) : t.Owing :=
  State.Accounts.congr (k.accounts h) fun g tag => by rw [hs, repliesTo_nil, Nat.add_zero]

/-- The directory's part of an event and its items (R149). -/
theorem State.Owing.settles {ps : List Post} (h : s.Owing) (k : s.Settles ps t) (ht : ∀ a, (s.entry a).Tidy) : (t.postAll ps).Owing :=
  .of_postAll (((k.carries ht).accounts h).congr fun g tag => by
    rw [State.slotOpens_congr (s := s) (t := t) (by rw [k.within.port]) (by rw [k.within.line])])

end

end Sys2Proof.Machine
end

section
/-! SUPPORT. The account of the owed tags over grants, deliveries and the tokens of a round (R76, R78, R82, R87 to R90, R112 to R114). -/

namespace Sys2Proof.Machine

set_option Elab.async false

open Sys2Proof

section
variable {s t : State} {f : HostId → Tag → Nat}

theorem Line.drops_of_none {l : Line} (hx : l.record = none) (h : HostId) : l.drops h = false := by rw [Line.drops, hx]; rfl

theorem Line.drops_of_some {l : Line} {x : Txn} (hx : l.record = some x) (h : HostId) : l.drops h = (x.owner == .host h && x.replyDropped) := by
  rw [Line.drops, hx]
  rfl

theorem Slot.opens_kept (sl : Slot) (tag : Tag) : sl.opens false tag = if sl.req.tag = tag then 1 else 0 := by simp [Slot.opens]

theorem State.slotOpens_of_none {h : HostId} (hs : (s.port h).slot = none) (tag : Tag) : s.slotOpens h tag = 0 := by
  simp only [State.slotOpens, hs]

theorem State.slotOpens_of_some {h : HostId} {sl : Slot} (hs : (s.port h).slot = some sl) (tag : Tag) :
    s.slotOpens h tag = sl.opens (s.line.drops h) tag := by
  simp only [State.slotOpens, hs]

/-- A change of nothing that the account reads. -/
theorem State.Owing.of_reads (h : s.Owing) (he : ∀ a g tag, (t.entry a).opens g tag = (s.entry a).opens g tag := by intros; rfl)
    (ho : ∀ h, (t.port h).owed = (s.port h).owed := by intro; rfl) (hq : ∀ h, (t.port h).queue = (s.port h).queue := by intro; rfl)
    (hs : ∀ h, (t.port h).slot = (s.port h).slot := by intro; rfl) (ha : t.line.reset = s.line.reset := by rfl)
    (hd : ∀ h, t.line.drops h = s.line.drops h := by intro; rfl) : t.Owing := by
  refine h.same ⟨ho, hq, fun _ _ => by rw [Line.awaits, ha, Line.awaits], fun g tag => ?_⟩ fun g tag => State.slotOpens_congr (hs g) (hd g) tag
  rw [State.opens_congr (s := s) (t := t) fun a => he a g tag, repliesTo_nil, Nat.add_zero]

theorem State.Owing.setEntry (h : s.Owing) {a : Addr} {e : Entry} (he : ∀ g tag, e.opens g tag = (s.entry a).opens g tag) : (s.setEntry a e).Owing := by
  refine h.of_reads (t := s.setEntry a e) fun b g tag => ?_
  rw [State.entry_setEntry]
  split
  · next hb => rw [hb, he]
  · rfl

/-! ### Grants (R76 to R78) -/

/-- An attempt begins whose reply is dropped as before. -/
theorem State.Owing.beginAttempt (h : s.Owing) {x : Txn} (hx : ∀ g, (x.owner == .host g && x.replyDropped) = s.line.drops g) :
    (s.beginAttempt x).Owing := h.of_reads (t := s.beginAttempt x) (hd := hx)

theorem Engine.nextToken_keeps {e : Engine} {x : Txn} (hx : e.nextToken = some x) : x.replyDropped = false := by
  unfold Engine.nextToken at hx
  split at hx <;> cases hx <;> rfl

theorem State.Owing.sendRoundToken (h : s.Owing) (hr : s.line.record = none) : s.sendRoundToken.Owing := by
  unfold State.sendRoundToken
  split
  · next x hx =>
    have hcount : (s.modEngine fun e => e.countAttempt s.config.retryLimit).Owing := h.of_reads
    refine hcount.beginAttempt fun g => ?_
    rw [Engine.nextToken_keeps hx, Bool.and_false]
    exact (Line.drops_of_none hr g).symm
  · exact h

/-- The phase of a deferred record is read by no account. -/
theorem Entry.opens_setPhase (e : Entry) (p : PollPhase) (h : HostId) (tag : Tag) :
    ({ e with deferred := e.deferred.map fun d => { d with phase := p } } : Entry).opens h tag = e.opens h tag := by
  unfold Entry.opens Entry.defersOf
  cases e.deferred <;> rfl

theorem State.Owing.grantSystem (h : s.Owing) (hr : s.line.record = none) : s.grantSystem.Owing := by
  have hstart : (s.setSide .host).takeRate.Owing := h.of_reads
  have hnone : (s.setSide .host).takeRate.line.record = none := hr
  unfold State.grantSystem
  generalize (s.setSide .host).takeRate = v at hstart hnone ⊢
  have hfresh (x : Txn) (hx : x.replyDropped = false) (g : HostId) : (x.owner == .host g && x.replyDropped) = v.line.drops g := by
    rw [hx, Bool.and_false, Line.drops_of_none hnone]
  dsimp only
  split
  · have hround : v.startRound.Owing := hstart.of_reads
    exact hround.sendRoundToken hnone
  · split
    · next a ha => exact (hstart.setEntry (Entry.opens_setPhase (v.entry a) .polling)).beginAttempt (hfresh _ rfl)
    · split
      · next a ha =>
        have hmoved : ({ v with sweep := { v.sweep with cursor := a } } : State).Owing := hstart.of_reads
        exact hmoved.beginAttempt (hfresh _ rfl)
      · exact hstart

/-- What a slot replaced does to the account of its host. -/
theorem State.Accounts.setSlot (k : s.Accounts f) (h : HostId) (sl : Option Slot) : (s.setSlot h sl).Accounts f := by
  have hport (g : HostId) : ((s.setSlot h sl).port g).owed = (s.port g).owed ∧ ((s.setSlot h sl).port g).queue = (s.port g).queue := by
    rw [State.setSlot, State.port_setPort]
    split
    · next hg => exact ⟨by rw [hg], by rw [hg]⟩
    · exact ⟨rfl, rfl⟩
  have hcarries : s.Carries [] (s.setSlot h sl) := .of_same (fun g => (hport g).1) fun g => (hport g).2
  exact (hcarries.accounts k).congr fun g tag => by rw [repliesTo_nil, Nat.add_zero]

theorem State.slotOpens_setSlot_ne {g h : HostId} (hg : g ≠ h) (sl : Option Slot) (tag : Tag) :
    (s.setSlot h sl).slotOpens g tag = s.slotOpens g tag :=
  State.slotOpens_congr (congrArg Port.slot (s.port_setPort_ne hg _)) rfl tag

theorem State.slot_setSlot (s : State) (h : HostId) (sl : Option Slot) : ((s.setSlot h sl).port h).slot = sl :=
  congrArg Port.slot (s.port_setPort_same h _)

/-- The grant of a slot leaves its request open (R77). -/
theorem State.Owing.grantSlot (h : s.Owing) (hr : s.line.record = none) {g : HostId} {r : LineRequest}
    (hs : (s.port g).slot = some { req := r, granted := false }) : (s.setSlot g (some ⟨r, true⟩)).Owing := by
  refine (State.Accounts.setSlot h g _).congr fun k tag => ?_
  by_cases hk : k = g
  · have hdrops : (s.setSlot g (some ⟨r, true⟩)).line.drops g = false := Line.drops_of_none hr g
    rw [hk, State.slotOpens_of_some hs, State.slotOpens_of_some (s.slot_setSlot g _), hdrops, Line.drops_of_none hr,
      Slot.opens_kept, Slot.opens_kept]
  · rw [State.slotOpens_setSlot_ne hk]

/-- A slot that fails its check is emptied and answered (R76). -/
theorem State.Owing.refused (h : s.Owing) {g : HostId} {r : LineRequest} (hs : (s.port g).slot = some { req := r, granted := false })
    {c : AccessCheck} (hc : ∀ a, c ≠ .pass a) : ((s.setSlot g none).postAll (refusedAccess g r.tag r.kind c)).Owing := by
  refine .of_postAll ((State.Accounts.setSlot h g none).congr fun k tag => ?_)
  have hreply : repliesTo (refusedAccess g r.tag r.kind c) k tag = if g = k ∧ r.tag = tag then 1 else 0 := by
    cases c with
    | pass a => exact absurd rfl (hc a)
    | stale | held x | deferred => rw [refusedAccess, repliesTo_reply, repliesTo_nil, Nat.zero_add]
  rw [hreply]
  by_cases hk : k = g
  · rw [hk, State.slotOpens_of_some hs, State.slotOpens_of_none (s.slot_setSlot g none)]
    simp [Slot.opens]
  · rw [State.slotOpens_setSlot_ne hk]
    simp [Ne.symm hk]

theorem State.Owing.choose (n : Nat) (h : s.Owing) (hr : s.line.record = none) : (State.choose n s).Owing := by
  induction n generalizing s with
  | zero => exact h
  | succ n ih =>
    cases hh : s.nextHost with
    | none =>
      simp only [State.choose, hh]
      split
      · exact h.grantSystem hr
      · exact h
    | some g =>
      cases hside : s.systemWaits && s.sched.side == .system with
      | true =>
        simp only [State.choose, hh, hside, if_true]
        exact h.grantSystem hr
      | false =>
        obtain ⟨r, hs⟩ := Port.candidate_iff.1 (State.candidate_of_nextHost hh)
        have hrotated : (s.setRotation g).Owing := h.of_reads
        rw [State.choose_host n hh hs hside]
        cases s.checkAccess g r.handle with
        | pass a =>
          have hgranted : (((s.setRotation g).setSlot g (some ⟨r, true⟩)).setSide .system).takeRate.Owing :=
            (hrotated.grantSlot hr hs).of_reads
          refine hgranted.beginAttempt fun k => ?_
          rw [show (hostTxn g a r).replyDropped = false from rfl, Bool.and_false]
          exact (Line.drops_of_none hr k).symm
        | stale | held g | deferred =>
          refine ih (hrotated.refused hs nofun) ?_
          rw [State.postAll_line]
          exact hr

theorem State.Owing.grant (h : s.Owing) : s.grant.Owing := by
  unfold State.grant
  split
  · next hf =>
    obtain ⟨-, -, -, hr, -⟩ := State.lineFree_iff.1 hf
    exact h.choose 5 hr
  · exact h

/-! ### Deliveries (R87 to R90, R104, R112 to R114) -/

theorem State.Owing.endIdlePass (h : s.Owing) : s.endIdlePass.Owing := by
  obtain ⟨w, hw⟩ := s.endIdlePass_rest
  rw [hw]
  exact h.of_reads

theorem State.Accounts.endIdlePass (k : s.Accounts f) : s.endIdlePass.Accounts f := by
  obtain ⟨w, hw⟩ := s.endIdlePass_rest
  rw [hw]
  exact k

/-- The account with the slots of `s` and the items of an event comes to rest with the items. -/
theorem State.Owing.of_items {ps : List Post} (k : t.Accounts fun h tag => s.slotOpens h tag + repliesTo ps h tag)
    (hs : ∀ h, (t.port h).slot = (s.port h).slot) (hd : ∀ h, t.line.drops h = s.line.drops h) : (t.endIdlePass.postAll ps).Owing := by
  refine .of_postAll (k.endIdlePass.congr fun h tag => ?_)
  obtain ⟨w, hw⟩ := t.endIdlePass_rest
  have hsame : t.endIdlePass.slotOpens h tag = s.slotOpens h tag := by
    rw [hw]
    exact State.slotOpens_congr (hs h) (hd h) tag
  rw [hsame]

/-- An answered outcome leaves the deferred record (R6). -/
theorem State.applyOutcome_deferred {a : Addr} {st : ModStatus} {v : BitVec 16} {p : RefusePoint} {n : Nat} :
    ((s.applyOutcome a (.answered st v p) n).1.entry a).deferred = (s.entry a).deferred := by
  have hclear : ((s.clearMiss a).entry a).deferred = (s.entry a).deferred := by
    unfold State.clearMiss
    dsimp only
    split
    · rw [State.bumpSerial_entry, State.entry_setEntry_same]
    · rw [State.entry_setEntry_same]
  unfold State.applyOutcome
  split
  · exact hclear
  · rfl

/-- A PEND receipt's record takes the request over, unless its reply is dropped (R90, R104). -/
theorem State.Accounts.createDeferred {h : HostId} {x : Txn} {a : Addr} (ha : x.entryAddr = some a) (hd : (s.entry a).deferred = none)
    (k : s.Accounts fun g tag => f g tag + if g = h ∧ x.tag = tag ∧ x.replyDropped = false then 1 else 0) : (s.createDeferred h x).Accounts f := by
  intro g tag
  have hbefore : _ = _ + (f g tag + _) := k g tag
  have hsum := s.opens_setEntry a { s.entry a with
    deferred := some (s.newDeferred (if x.replyDropped then none else some h) x.tag (argLength x.argument)) } g tag
  have hold : (s.entry a).opens g tag = (s.entry a).waitsOf g tag := by
    simp only [Entry.opens, Entry.defersOf, hd, Nat.add_zero]
  have hnew : ({ s.entry a with
      deferred := some (s.newDeferred (if x.replyDropped then none else some h) x.tag (argLength x.argument)) } : Entry).opens g tag =
      (s.entry a).waitsOf g tag + if g = h ∧ x.tag = tag ∧ x.replyDropped = false then 1 else 0 := by
    refine congrArg ((s.entry a).waitsOf g tag + ·) ?_
    simp only [Entry.defersOf, State.newDeferred]
    cases x.replyDropped <;> simp [eq_comm, and_comm]
  have hcreated : s.createDeferred h x = s.setEntry a { s.entry a with
      deferred := some (s.newDeferred (if x.replyDropped then none else some h) x.tag (argLength x.argument)) } := by
    simp only [State.createDeferred, ha]
  rw [hcreated]
  rw [hold, hnew] at hsum
  change (s.port g).owed.count tag = (s.port g).queues tag + _ + s.line.awaits g tag + f g tag
  omega

/-- The poller's item, or the record that stays, stands for the request (R112, R113). -/
theorem State.pollEnds_opens (s : State) (d : Deferred) (o : TxnOutcome) (n : Nat) (e : Entry) (h : HostId) (tag : Tag) :
    ({ e with deferred := (s.pollEnds d o n).1 } : Entry).defersOf h tag + repliesTo (s.pollEnds d o n).2 h tag =
      if d.owner = some h ∧ d.tag = tag then 1 else 0 := by
  have hcontinue (g : Deferred) (ho : g.owner = d.owner) (ht : g.tag = d.tag) :
      ({ e with deferred := (s.continuePoll g n).1 } : Entry).defersOf h tag + repliesTo (s.continuePoll g n).2 h tag =
        if d.owner = some h ∧ d.tag = tag then 1 else 0 := by
    unfold State.continuePoll
    split
    · simp only [Entry.defersOf, repliesTo_deferred, ho, ht, Nat.zero_add]
    · simp only [Entry.defersOf, repliesTo_nil, ho, ht, Nat.add_zero]
  unfold State.pollEnds
  split
  · simp only [Entry.defersOf, repliesTo_deferred, Nat.zero_add]
  · exact hcontinue _ rfl rfl
  · simp only [Entry.defersOf, repliesTo_deferred, Nat.zero_add]
  · exact hcontinue _ rfl rfl
  · exact hcontinue _ rfl rfl
  all_goals simp only [Entry.defersOf, repliesTo_nil, Nat.add_zero]

end

end Sys2Proof.Machine
end

section
/-! SUPPORT. The account of the owed tags when a transaction ends, and over the tokens of a round (R82 to R90). -/

namespace Sys2Proof.Machine

set_option Elab.async false

open Sys2Proof

section
variable {s t u : State} {x y : Txn} {f : HostId → Tag → Nat}

theorem State.DirectoryLaw.tidy (hl : s.DirectoryLaw) (a : Addr) : (s.entry a).Tidy := (hl.entries a).tidy

theorem State.slotOpens_of_drops {h : HostId} (hs : (t.port h).slot = (s.port h).slot) (ht : t.line.drops h = false) (hd : s.line.drops h = false)
    (tag : Tag) : t.slotOpens h tag = s.slotOpens h tag := State.slotOpens_congr hs (ht.trans hd.symm) tag

/-- One entry changes: what it no longer keeps open is counted elsewhere. -/
theorem State.Accounts.setEntry {f' : HostId → Tag → Nat} (k : s.Accounts f) {a : Addr} {e : Entry}
    (he : ∀ g tag, (s.entry a).opens g tag + f g tag = e.opens g tag + f' g tag) : (s.setEntry a e).Accounts f' := by
  intro g tag
  have hbefore := k g tag
  have hsum := s.opens_setEntry a e g tag
  have hone := he g tag
  change (s.port g).owed.count tag = (s.port g).queues tag + (s.setEntry a e).opens g tag + s.line.awaits g tag + f' g tag
  omega

theorem Entry.opens_setDeferred (e : Entry) (d : Option Deferred) (h : HostId) (tag : Tag) :
    ({ e with deferred := d } : Entry).opens h tag = e.waitsOf h tag + ({ e with deferred := d } : Entry).defersOf h tag := rfl

/-! ### The end of a transaction (R86 to R90) -/

/-- What a transaction's end brings: its own slot's request is to be answered, unless its reply is dropped (R77, R90). -/
theorem State.DirectoryLaw.slotOpens_host (hl : s.DirectoryLaw) (hx : s.line.record = some x) {h : HostId} (ho : x.owner = .host h)
    (hr : t.line.record = none) (hs : ∀ g, (t.port g).slot = (s.port g).slot) (g : HostId) (tag : Tag) :
    s.slotOpens g tag = (t.setSlot h none).slotOpens g tag + if g = h ∧ x.tag = tag ∧ x.replyDropped = false then 1 else 0 := by
  obtain ⟨-, hslot, -⟩ := hl.line
  obtain ⟨r, hslot, htag, -⟩ := hslot x h hx ho
  by_cases hg : g = h
  · have hdrops : s.line.drops h = x.replyDropped := by rw [Line.drops_of_some hx, ho]; simp
    rw [hg, State.slotOpens_of_some hslot, State.slotOpens_of_none (t.slot_setSlot h none), hdrops, Slot.opens]
    simp only [htag]
    cases x.replyDropped <;> simp
  · have hdrops : s.line.drops g = false := by rw [Line.drops_of_some hx, ho]; simp [Ne.symm hg]
    rw [State.slotOpens_setSlot_ne hg, State.slotOpens_of_drops (hs g) (Line.drops_of_none hr g) hdrops]
    simp [hg]

/-- A delivery to a host answers its slot's request, or leaves a deferred record for it (R88, R90, R104). -/
theorem State.Accounts.deliverHost (hr : s.line.record = none) (ht : ∀ a, (s.entry a).Tidy) {h : HostId}
    (k : s.Accounts fun g tag => (s.setSlot h none).slotOpens g tag + if g = h ∧ x.tag = tag ∧ x.replyDropped = false then 1 else 0)
    (o : TxnOutcome) (hp : ∀ v, o = .answered .pend v .receipt → ∃ a, x.entryAddr = some a ∧ (s.entry a).deferred = none) :
    (s.deliverHost h x o).Owing := by
  have htakes := s.directoryTakes_settles x o
  generalize hst : s.directoryTakes x o = st at htakes
  obtain ⟨s1, ps⟩ := st
  dsimp only at htakes
  have hs1 := State.Accounts.setSlot ((htakes.carries ht).accounts k) h none
  have hslots (g : HostId) (tag : Tag) : (s.setSlot h none).slotOpens g tag = (s1.setSlot h none).slotOpens g tag := by
    have hline : (s1.setSlot h none).line.record = none := (congrArg Line.record htakes.within.line).trans hr
    refine State.slotOpens_of_drops (t := s.setSlot h none) (s := s1.setSlot h none) ?_ (Line.drops_of_none hr g)
      (Line.drops_of_none hline g) tag
    rw [State.setSlot, State.setSlot, State.port_setPort, State.port_setPort, htakes.within.port, htakes.within.port]
  cases hreply : hostReply x o (s1.uidAt x) with
  | none =>
    rw [State.deliverHost_of_no_reply hst hreply]
    obtain ⟨v, rfl⟩ := hostReply_eq_none hreply
    obtain ⟨a, ha, hd⟩ := hp v rfl
    have hdeferred : ((s1.setSlot h none).entry a).deferred = none := by
      change (s1.entry a).deferred = none
      simp only [State.directoryTakes, ha] at hst
      rw [← hd, ← s.applyOutcome_deferred (st := .pend) (v := v) (p := .receipt) (n := x.attempt), hst]
    have hcreated : ((s1.setSlot h none).createDeferred h x).Accounts fun g tag => (s1.setSlot h none).slotOpens g tag + repliesTo ps g tag :=
      State.Accounts.createDeferred ha hdeferred (hs1.congr fun g tag => by rw [hslots]; omega)
    have hwithin := (State.Within.refl (s1.setSlot h none)).createDeferred (h := h) (x := x)
    exact .of_items hcreated (fun g => by rw [hwithin.port]) fun g => by rw [hwithin.line]
  | some rb =>
    obtain ⟨ro, b⟩ := rb
    rw [State.deliverHost_of_reply hst hreply]
    refine .of_items (hs1.congr fun g tag => ?_) (fun _ => rfl) fun _ => rfl
    rw [hslots, repliesTo_append]
    cases x.replyDropped with
    | true => simp
    | false =>
      simp only [Bool.false_eq_true, if_false, repliesTo_reply, repliesTo_nil, and_true, Nat.zero_add]
      simp only [eq_comm (a := g)]
      omega

theorem State.Owing.deliverPoller (ht : ∀ a, (s.entry a).Tidy) (k : s.Owing) (o : TxnOutcome) :
    (s.deliverPoller x o).Owing := by
  have htakes := s.directoryTakes_settles x o
  generalize hst : s.directoryTakes x o = st at htakes
  obtain ⟨s1, ps⟩ := st
  dsimp only at htakes
  have hs1 := (htakes.carries ht).accounts k
  have hslot (h : HostId) : (s1.port h).slot = (s.port h).slot := by rw [htakes.within.port]
  have hdrops (h : HostId) : s1.line.drops h = s.line.drops h := by rw [htakes.within.line]
  cases ha : x.entryAddr with
  | none =>
    have hsame : s.deliverPoller x o = s1.postAll ps := by simp only [State.deliverPoller, hst, ha]
    rw [hsame]
    exact .of_postAll (hs1.congr fun g tag => by rw [State.slotOpens_congr (hslot g) (hdrops g)])
  | some a =>
    cases hd : (s1.entry a).deferred with
    | none =>
      rw [State.deliverPoller_of_none ha hst hd]
      exact .of_items hs1 hslot hdrops
    | some d =>
      rw [State.deliverPoller_of_some ha hst hd]
      refine .of_items (s := s) (hs1.setEntry fun g tag => ?_) hslot hdrops
      have hends := s1.pollEnds_opens d o x.attempt (s1.entry a) g tag
      have hold : (s1.entry a).opens g tag = (s1.entry a).waitsOf g tag + if d.owner = some g ∧ d.tag = tag then 1 else 0 := by
        simp only [Entry.opens, Entry.defersOf, hd]
      rw [hold, ← hends, repliesTo_append, Entry.opens_setDeferred]
      omega

theorem State.Owing.deliverSweep (ht : ∀ a, (s.entry a).Tidy) (k : s.Owing) (o : TxnOutcome) :
    (s.deliverSweep x o).Owing := by
  have htakes := s.directoryTakes_settles x o
  generalize hst : s.directoryTakes x o = st at htakes
  obtain ⟨s1, ps⟩ := st
  dsimp only at htakes
  have hs1 := (htakes.carries ht).accounts k
  have hslot (h : HostId) : (s1.port h).slot = (s.port h).slot := by rw [htakes.within.port]
  have hdrops (h : HostId) : s1.line.drops h = s.line.drops h := by rw [htakes.within.line]
  cases ha : x.entryAddr with
  | none =>
    have hsame : s.deliverSweep x o = s1.postAll ps := by simp only [State.deliverSweep, hst, ha]
    rw [hsame]
    exact .of_postAll (hs1.congr fun g tag => by rw [State.slotOpens_congr (hslot g) (hdrops g)])
  | some a =>
    have hsame : s.deliverSweep x o = (s1.advanceSweep a).endIdlePass.postAll ps := by simp only [State.deliverSweep, hst, ha]
    rw [hsame]
    obtain ⟨w, hw⟩ := s1.advanceSweep_rest a
    rw [hw]
    exact .of_items (s := s) hs1 hslot hdrops

/-- The end of a transaction settles the account, whatever it ends in; `v` is the state with the transaction off the line (R87 to
R90). -/
theorem State.DirectoryLaw.delivered {v : State} (hl : s.DirectoryLaw) (hx : s.line.record = some x) (hy : y.grant = x.grant)
    (hyd : y.replyDropped = x.replyDropped) (hr : v.line.record = none) (hs : ∀ g, (v.port g).slot = (s.port g).slot)
    (he : ∀ a, v.entry a = s.entry a) (h : v.Accounts s.slotOpens) (o : TxnOutcome)
    (hp : ∀ w, o = .answered .pend w .receipt → ∃ a, y.entryAddr = some a ∧ (v.entry a).deferred = none) : (v.deliver y o).Owing := by
  simp only [Txn.grant, Prod.mk.injEq] at hy
  obtain ⟨-, -, hyo, hyt⟩ := hy
  have ht (a : Addr) : (v.entry a).Tidy := he a ▸ hl.tidy a
  have hsystem (ho : ∀ g, x.owner ≠ .host g) : v.Owing := h.congr fun g tag => by
    refine (State.slotOpens_of_drops (hs g) (Line.drops_of_none hr g) ?_ tag).symm
    rw [Line.drops_of_some hx]
    simp [ho g]
  unfold State.deliver
  split
  · next g ho =>
    refine State.Accounts.deliverHost hr ht (h.congr fun k tag => ?_) o hp
    rw [hyt, hyd]
    exact hl.slotOpens_host hx (hyo ▸ ho) hr hs k tag
  · next ho => exact (hsystem (by simp [← hyo, ho])).deliverPoller ht o
  · next ho => exact (hsystem (by simp [← hyo, ho])).deliverSweep ht o
  · next ho => exact hsystem (by simp [← hyo, ho])

/-- Only STATUS is sent to an entry with a deferred record (R111). -/
theorem State.DirectoryLaw.undeferred (hl : s.DirectoryLaw) (hx : s.line.record = some x) (hr : s.line.reset = none)
    (ho : x.owner ≠ .identification) (hk : x.kind ≠ .status) : ∃ a, x.entryAddr = some a ∧ (s.entry a).deferred = none := by
  obtain ⟨-, -, a, ha, -, -, hd⟩ := (hl.line.1 hr x hx).2.2 ho
  refine ⟨a, ha, ?_⟩
  by_contra hne
  exact hk (hd.2 hne)

theorem State.Owing.finish (h : s.Owing) (hl : s.DirectoryLaw) (hx : s.line.record = some x) (hr : s.line.reset = none)
    (ho : x.owner ≠ .identification) (hy : y.grant = x.grant) (hyd : y.replyDropped = x.replyDropped) (o : TxnOutcome) (g : Nat)
    (hp : ∀ v, o = .answered .pend v .receipt → x.kind ≠ .status) : (s.finish y o g).Owing := by
  refine hl.delivered hx hy hyd (v := s.toGap g none) rfl (fun _ => rfl) (fun _ => rfl) h o fun v hv => ?_
  obtain ⟨a, ha, hd⟩ := hl.undeferred hx hr ho (hp v hv)
  refine ⟨a, ?_, hd⟩
  have haddr : y.address = x.address := congrArg (fun q => q.2.1) hy
  rw [Txn.entryAddr, haddr]
  exact ha

/-- A transaction goes on with its reply dropped or not as before (R90). -/
theorem State.Owing.standing (h : s.Owing) (hx : s.line.record = some x) (hy : y.grant = x.grant) (hyd : y.replyDropped = x.replyDropped)
    {l : Line} (hl : l.record = some y) (hr : l.reset = s.line.reset) : ({ s with line := l } : State).Owing := by
  have hyo : y.owner = x.owner := congrArg (fun q => q.2.2.1) hy
  refine h.of_reads (t := { s with line := l }) (ha := hr) (hd := fun g => ?_)
  rw [Line.drops_of_some hx]
  exact (Line.drops_of_some hl g).trans (by rw [hyo, hyd])

theorem FailMark.outcome_ne_answered (m : FailMark) {st : ModStatus} {v : BitVec 16} {p : RefusePoint} : m.outcome ≠ .answered st v p := by
  cases m <;> simp [FailMark.outcome]

theorem State.Owing.attemptFails (h : s.Owing) (hl : s.DirectoryLaw) (hx : s.line.record = some x) (hr : s.line.reset = none)
    (ho : x.owner ≠ .identification) (m : FailMark) (g : Nat) : (s.attemptFails x m g).Owing := by
  unfold State.attemptFails
  dsimp only
  split
  · exact h.standing hx (y := { x with mark := x.mark.raise m }) rfl rfl rfl rfl
  · refine h.finish hl hx hr ho (y := { x with mark := x.mark.raise m }) rfl rfl _ g fun v hv => ?_
    exact absurd hv (FailMark.outcome_ne_answered _)

theorem State.Owing.accessAnswer (h : s.Owing) (hl : s.DirectoryLaw) (hx : s.line.record = some x) (hr : s.line.reset = none)
    (ho : x.owner ≠ .identification) (j : Judgement) : (s.accessAnswer x j).Owing := by
  unfold State.accessAnswer
  split
  · exact h.attemptFails hl hx hr ho _ _
  · exact h.attemptFails hl hx hr ho _ _
  · split
    · exact h.standing hx rfl rfl (y := x) hx rfl
    · exact h.standing hx rfl rfl (y := x) hx rfl
    · refine h.finish hl hx hr ho rfl rfl _ _ fun v hv => ?_
      cases hv

/-! ### The tokens of a round (R51, R52, R82) -/

/-- A round's token leaves the line with no slot's reply (R78). -/
theorem State.Owing.roundGap (h : s.Owing) (hx : s.line.record = some x) (ho : x.owner = .identification) (g : Nat) : (s.toGap g none).Owing := by
  refine h.of_reads (t := s.toGap g none) (hd := fun k => ?_)
  rw [Line.drops_of_some hx, ho]
  exact Line.drops_of_none rfl k

theorem State.Owing.itemsOf {ps : List Post} (h : s.Owing) (k : s.Settles ps t) (ht : ∀ a, (s.entry a).Tidy) : (t.endIdlePass.postAll ps).Owing :=
  .of_items ((k.carries ht).accounts h) (fun g => by rw [k.within.port]) fun g => by rw [k.within.line]

theorem State.engineDecides_settles {k : TxnKind} (j : Judgement)
    (hb : k = .ping → ∀ a, s.engine.chosen = some a → (s.entry a).bound = false) : s.Settles (s.engineDecides k j).2 (s.engineDecides k j).1 := by
  unfold State.engineDecides
  split
  · unfold State.decideAssign
    split
    · exact s.completeBind_settles _ _
    all_goals
      dsimp only
      exact s.settles_refl.modEngine
  · next a hch =>
    unfold State.decideConfirm
    split
    · exact s.completeBind_settles _ _
    · split
      · dsimp only
        exact s.settles_refl.modEngine
      · exact State.failBind_settles (hb rfl a hch)
  · exact s.decidePark_settles j
  · exact s.settles_refl

theorem State.Owing.roundAnswer (h : s.Owing) (hl : s.DirectoryLaw) (hx : s.line.record = some x) (hr : s.line.reset = none)
    (ho : x.owner = .identification) (j : Judgement) : (s.roundAnswer x j).Owing := by
  refine (h.roundGap hx ho Config.gapBits).itemsOf (State.engineDecides_settles j fun hk a ha => ?_) hl.tidy
  obtain ⟨hstate, hend⟩ := (hl.line.1 hr x hx).2.1 ho
  have hconfirming : s.engine.state = .confirming := by
    rw [hk] at hstate
    exact (Option.some.inj hstate).symm
  have hbinding : (s.entry a).state = .binding := (hl.round.1 a).2 ⟨.inr hconfirming, hend, ha⟩
  change (s.entry a).bound = false
  simp [Entry.bound, hbinding]

theorem State.Owing.answerJudged (h : s.Owing) (hl : s.DirectoryLaw) (hx : s.line.record = some x) (hr : s.line.reset = none) (j : Judgement) :
    (s.answerJudged x j).Owing := by
  unfold State.answerJudged
  split
  · next ho => exact h.roundAnswer hl hx hr ho j
  · next ho => exact h.accessAnswer hl hx hr ho j

theorem TxnEffect.owing (he : TxnEffect s x t) (h : s.Owing) (hl : s.DirectoryLaw) (hx : s.line.record = some x) (hr : s.line.reset = none) :
    t.Owing := by
  obtain ⟨hstands, hident, haccess⟩ := hl.line.1 hr x hx
  cases he with
  | tokenEnded hs =>
    unfold State.tokenEnd
    split
    · next hk =>
      have ho : x.owner = .identification := by
        by_contra hne
        have hacc := (haccess hne).1
        rw [hk] at hacc
        cases hacc
      have hparked : (s.setParked 0).Owing := h.of_reads
      exact hparked.roundGap hx ho _
    · exact h.standing hx rfl rfl (y := x) hx rfl
    · exact h.standing hx rfl rfl (y := x) hx rfl
  | receipt j hs =>
    have ho := hl.access_of_stands hx hr (.inr (.inr hs))
    have hk : x.kind ≠ .status := by
      intro hk
      simp [Txn.standsIn, hs, hk] at hstands
    unfold State.receiptIs
    split <;> exact h.finish hl hx hr ho rfl rfl _ _ fun _ _ => hk
  | failed hs => exact h.attemptFails hl hx hr (hl.access_of_stands hx hr (.inl hs)) _ _
  | burst data ok hs =>
    have ho := hl.access_of_stands hx hr (.inl hs)
    unfold State.burstJudged
    split
    · refine h.finish hl hx hr ho (y := { x with buffer := data }) rfl rfl _ _ fun v hv => ?_
      cases hv
    · exact h.attemptFails hl hx hr ho _ _
  | burstSent hs => exact h.standing hx rfl rfl (y := x) hx rfl
  | contention u hs =>
    have ho : x.owner = .identification := by
      by_contra hne
      have hacc := (haccess hne).1
      have hk : x.kind = .seek := by simpa [Txn.standsIn, hs] using hstands
      rw [hk] at hacc
      cases hacc
    exact (h.roundGap hx ho Config.gapBits).itemsOf (State.contentionResult_settles _ u) hl.tidy

end

end Sys2Proof.Machine
end

section
/-! SUPPORT. The account of the owed tags over line resets, takes and handovers (R122 to R127, R154, R170 to R172). -/

namespace Sys2Proof.Machine

set_option Elab.async false

open Sys2Proof

/-- One open request, of host `h` with tag `tag`, in an account. -/
def oneOpen (h : HostId) (tag : Tag) (g : HostId) (t : Tag) : Nat := if h = g ∧ tag = t then 1 else 0

theorem repliesTo_one (h : HostId) (tag kind : Byte) (o : ReplyOutcome) (q : Byte) (b : ReplyBody) (g : HostId) (t : Tag) :
    repliesTo [.reply h tag kind o q b] g t = oneOpen h tag g t := by
  rw [repliesTo_reply, repliesTo_nil, Nat.zero_add]
  rfl

section
variable {s t u : State} {x : Txn} {f f' : HostId → Tag → Nat}

/-- The account with the slots as they were is the account. -/
theorem State.Accounts.owing (k : t.Accounts s.slotOpens) (hs : ∀ h, (t.port h).slot = (s.port h).slot)
    (hd : ∀ h, t.line.drops h = s.line.drops h) : t.Owing :=
  k.congr fun h tag => (State.slotOpens_congr (hs h) (hd h) tag).symm

/-- A change of nothing that the account reads beside the slots. -/
theorem State.Accounts.of_reads (k : s.Accounts f) (he : ∀ a g tag, (t.entry a).opens g tag = (s.entry a).opens g tag := by intros; rfl)
    (ho : ∀ h, (t.port h).owed = (s.port h).owed := by intro; rfl) (hq : ∀ h, (t.port h).queue = (s.port h).queue := by intro; rfl)
    (ha : ∀ h tag, t.line.awaits h tag = s.line.awaits h tag := by intros; rfl) : t.Accounts f := by
  have hcarries : s.Carries [] t := ⟨ho, hq, ha, fun g tag => by
    rw [State.opens_congr (s := s) (t := t) fun a => he a g tag, repliesTo_nil, Nat.add_zero]⟩
  exact (hcarries.accounts k).congr fun g tag => by rw [repliesTo_nil, Nat.add_zero]

theorem State.Accounts.answer {h : HostId} {r : Request} {o : ReplyOutcome} {b : ReplyBody}
    (k : s.Accounts fun g tag => f g tag + oneOpen h r.tag g tag) : (s.answer h r o b).Accounts f :=
  State.Accounts.post (k.congr fun g tag => by rw [repliesTo_one])

theorem State.Accounts.answerClaim {h : HostId} {r : Request} {o : ReplyOutcome} {b : ClaimBody}
    (k : s.Accounts fun g tag => f g tag + oneOpen h r.tag g tag) : (s.answerClaim h r o b).Accounts f := by
  refine State.Accounts.answer ?_
  unfold State.useFree
  split
  · exact k.of_reads
  · exact k

theorem State.answer_slot (s : State) (h : HostId) (r : Request) (o : ReplyOutcome) (b : ReplyBody) (g : HostId) :
    ((s.answer h r o b).port g).slot = (s.port g).slot := State.post_port_slot ..

theorem State.answer_line (s : State) (h : HostId) (r : Request) (o : ReplyOutcome) (b : ReplyBody) : (s.answer h r o b).line = s.line :=
  State.post_line ..

theorem State.answerClaim_slot (s : State) (h : HostId) (r : Request) (o : ReplyOutcome) (b : ClaimBody) (g : HostId) :
    ((s.answerClaim h r o b).port g).slot = (s.port g).slot := by
  rw [State.answerClaim, State.answer_slot]
  unfold State.useFree
  split <;> rfl

theorem State.answerClaim_line (s : State) (h : HostId) (r : Request) (o : ReplyOutcome) (b : ClaimBody) :
    (s.answerClaim h r o b).line = s.line := by
  rw [State.answerClaim, State.answer_line]
  unfold State.useFree
  split <;> rfl

/-- A take that only answers (R154). -/
theorem State.Owing.answered {h : HostId} {r : Request} {o : ReplyOutcome} {b : ReplyBody}
    (k : s.Accounts fun g tag => s.slotOpens g tag + oneOpen h r.tag g tag) : (s.answer h r o b).Owing :=
  State.Accounts.owing k.answer (s.answer_slot h r o b) fun g => by rw [State.answer_line]

theorem State.Owing.answeredClaim {h : HostId} {r : Request} {o : ReplyOutcome} {b : ClaimBody}
    (k : s.Accounts fun g tag => s.slotOpens g tag + oneOpen h r.tag g tag) : (s.answerClaim h r o b).Owing :=
  State.Accounts.owing k.answerClaim (s.answerClaim_slot h r o b) fun g => by rw [State.answerClaim_line]

theorem State.Owing.notice (h : s.Owing) (b : NoticeBody) : (s.post (.notice b)).Owing :=
  State.Owing.of_postAll (ps := [.notice b]) (State.Accounts.congr h fun _ _ => rfl)

/-! ### Handovers (R124) -/

/-- The wait items of an optional claim. -/
theorem Entry.opens_setClaim (e : Entry) (c : Option Claim) (h : HostId) (tag : Tag) :
    ({ e with claim := c } : Entry).opens h tag = ({ e with claim := c } : Entry).waitsOf h tag + e.defersOf h tag := rfl

/-- Each waiter of a handover is answered, or waits on for the next holder (R124). -/
theorem State.nextHolder_opens (s : State) (ws : List WaitItem) (e : Entry) (h : HostId) (tag : Tag) :
    ws.countP (fun w => w.host = h ∧ w.tag = tag) =
      ({ e with claim := (s.nextHolder ws).1 } : Entry).waitsOf h tag + repliesTo (s.nextHolder ws).2 h tag := by
  have hone (w : WaitItem) (o : ReplyOutcome) (b : ClaimBody) : repliesTo [w.reply o b] h tag = if w.host = h ∧ w.tag = tag then 1 else 0 :=
    repliesTo_one ..
  induction ws with
  | nil => rfl
  | cons w ws ih =>
    rw [List.countP_cons]
    simp only [decide_eq_true_eq]
    cases hw : s.checkHandle w.handle with
    | current a =>
      simp only [State.nextHolder, hw, hone]
      rfl
    | malformed | stale =>
      simp only [State.nextHolder, hw]
      rw [ih, ← List.singleton_append, repliesTo_append, hone]
      omega

theorem State.Accounts.handOver (k : s.Accounts f) {a : Addr} {c : Claim} (hc : (s.entry a).claim = some c) :
    (s.handOver a c.waits).1.Accounts fun g tag => f g tag + repliesTo (s.handOver a c.waits).2.1 g tag := by
  refine k.setEntry fun g tag => ?_
  have hnext := s.nextHolder_opens c.waits (s.entry a) g tag
  have hold : (s.entry a).opens g tag = c.waits.countP (fun w => w.host = g ∧ w.tag = tag) + (s.entry a).defersOf g tag := by
    simp only [Entry.opens, Entry.waitsOf, hc]
  rw [hold, Entry.opens_setClaim, hnext]
  change _ = _ + (f g tag + repliesTo (s.nextHolder c.waits).2 g tag)
  omega

/-! ### Line resets (R26, R117, R134, R170 to R172) -/

theorem repliesTo_flatMap_allAddrs (p : Addr → List Post) (h : HostId) (tag : Tag) :
    repliesTo (allAddrs.flatMap p) h tag = ∑ a, repliesTo (p a) h tag := by
  rw [repliesTo, List.countP_flatMap, ← sum_map_allAddrs]
  rfl

/-- Whatever the directory keeps open is answered ABORTED as a line reset begins (R117, R134, R170). -/
theorem State.repliesTo_lineResetItems (s : State) (h : HostId) (tag : Tag) : repliesTo s.lineResetItems h tag = s.opens h tag := by
  have hsum : s.opens h tag = (∑ a, (s.entry a).waitsOf h tag) + ∑ a, (s.entry a).defersOf h tag := Finset.sum_add_distrib
  unfold State.lineResetItems
  simp only [repliesTo_append, repliesTo_flatMap_allAddrs, repliesTo_waitersEnd, repliesTo_deferredAborted, repliesTo_holderRevoked,
    Finset.sum_const_zero, hsum, Nat.add_zero]

theorem Line.awaits_of_none {l : Line} (h : l.reset = none) (g : HostId) (tag : Tag) : l.awaits g tag = 0 := by
  simp only [Line.awaits, h]

theorem Line.awaits_of_some {l : Line} {lr : LineReset} (h : l.reset = some lr) (g : HostId) (tag : Tag) :
    l.awaits g tag = lr.requesters.countP fun q => q.host = g ∧ q.tag = tag := by
  simp only [Line.awaits, h]

theorem State.Accounts.resetBegun {qs : List Requester} (hr : s.line.reset = none)
    (k : s.Accounts fun g tag => f g tag + qs.countP fun q => q.host = g ∧ q.tag = tag) (reason : ResetReason) :
    (s.resetBegun reason qs).Accounts fun g tag => f g tag + repliesTo (s.lineResetItems ++ [.notice (.lineReset reason)]) g tag := by
  intro g tag
  have hbefore : _ = _ + (f g tag + _) := k g tag
  have hnone : (s.resetBegun reason qs).opens g tag = 0 :=
    Finset.sum_eq_zero fun a _ => Entry.opens_none (s.resetDirectory_records a).1 (s.resetDirectory_records a).2 g tag
  have hport : (s.resetBegun reason qs).port g = s.port g := by
    obtain ⟨d, hd⟩ := s.resetDirectory_rest
    change s.resetDirectory.port g = _
    rw [hd]
    rfl
  have hawaits : (s.resetBegun reason qs).line.awaits g tag = qs.countP fun q => q.host = g ∧ q.tag = tag := rfl
  rw [Line.awaits_of_none hr] at hbefore
  change _ = _ + (f g tag + repliesTo (s.lineResetItems ++ [.notice (.lineReset reason)]) g tag)
  rw [hport, hnone, hawaits, repliesTo_append, s.repliesTo_lineResetItems]
  rw [show repliesTo [.notice (.lineReset reason)] g tag = 0 from rfl]
  omega

theorem State.resetBegun_slotOpens (s : State) (reason : ResetReason) (qs : List Requester) (h : HostId) (tag : Tag) :
    (s.resetBegun reason qs).slotOpens h tag = s.slotOpens h tag := by
  obtain ⟨d, hd⟩ := s.resetDirectory_rest
  refine State.slotOpens_congr ?_ ?_ tag
  · change (s.resetDirectory.port h).slot = _
    rw [hd]
    rfl
  · change s.resetDirectory.line.drops h = _
    rw [hd]

/-- A line reset begins, requested or not (R170, R172). -/
theorem State.Owing.beginLineReset {qs : List Requester} (hr : s.line.reset = none)
    (k : s.Accounts fun g tag => s.slotOpens g tag + qs.countP fun q => q.host = g ∧ q.tag = tag) (reason : ResetReason) :
    (s.beginLineReset reason qs).Owing := by
  rw [State.beginLineReset_eq]
  exact .of_postAll ((State.Accounts.resetBegun hr k reason).congr fun g tag => by rw [s.resetBegun_slotOpens])

theorem State.Owing.requestLineReset {h : HostId} {tag : Tag} (k : s.Accounts fun g t => s.slotOpens g t + oneOpen h tag g t) :
    (s.requestLineReset h tag).Owing := by
  unfold State.requestLineReset
  split
  · next lr hlr =>
    intro g t
    have hbefore : _ = _ + (s.slotOpens g t + oneOpen h tag g t) := k g t
    have hjoined : (s.joinLineReset lr h tag).line.awaits g t = s.line.awaits g t + oneOpen h tag g t := by
      rw [Line.awaits_of_some hlr]
      have hlr' : (s.joinLineReset lr h tag).line.reset = some { lr with requesters := lr.requesters ++ [⟨h, tag, true⟩] } := rfl
      rw [Line.awaits_of_some hlr', List.countP_append, List.countP_singleton]
      simp [oneOpen]
    rw [hjoined]
    change (s.port g).owed.count t = (s.port g).queues t + s.opens g t + _ + s.slotOpens g t
    omega
  · next hr =>
    refine State.Owing.beginLineReset hr (k.congr fun g t => ?_) _
    rw [List.countP_singleton]
    simp [oneOpen]

/-- The line reset's end answers its requesters (R172). -/
theorem LineReset.repliesTo_replies (lr : LineReset) (h : HostId) (tag : Tag) :
    repliesTo lr.replies h tag = lr.requesters.countP fun q => q.host = h ∧ q.tag = tag := by
  rw [repliesTo, LineReset.replies, List.countP_map]
  refine List.countP_congr fun q _ => ?_
  simp [Post.answers]

theorem State.Owing.setLine (h : s.Owing) {l : Line} (ha : ∀ g tag, l.awaits g tag = s.line.awaits g tag)
    (hd : ∀ g, l.drops g = s.line.drops g) : ({ s with line := l } : State).Owing :=
  State.Accounts.owing (State.Accounts.of_reads (t := { s with line := l }) h (ha := ha)) (fun _ => rfl) hd

/-- A line reset that is over has answered its requesters; `v` is the state without it (R172). -/
theorem State.Owing.resetAnswered {v : State} {lr : LineReset} (h : s.Owing) (hp : ∀ g, v.port g = s.port g) (he : ∀ a, v.entry a = s.entry a)
    (hlr : s.line.reset = some lr) (hv : v.line.reset = none) (hr : s.line.record = none) (hvr : v.line.record = none) :
    (v.postAll lr.replies).Owing := by
  refine .of_postAll fun g tag => ?_
  have hbefore := h g tag
  have hslot := State.slotOpens_congr (s := s) (t := v) (h := g) (by rw [hp]) ((Line.drops_of_none hvr g).trans (Line.drops_of_none hr g).symm) tag
  have hopens : v.opens g tag = s.opens g tag := State.opens_congr fun a => by rw [he]
  rw [Line.awaits_of_some hlr] at hbefore
  change _ = _ + (v.slotOpens g tag + repliesTo lr.replies g tag)
  rw [LineReset.repliesTo_replies, Line.awaits_of_none hv, hslot, hopens, hp]
  omega

theorem ResetEffect.owing {lr : LineReset} (hx : ResetEffect s lr t) (h : s.Owing) (hl : s.DirectoryLaw) (hlr : s.line.reset = some lr) :
    t.Owing := by
  have hawaits {l : Line} {p : ResetPhase} (hr : l.reset = some { lr with phase := p }) (g : HostId) (tag : Tag) :
      l.awaits g tag = s.line.awaits g tag := (Line.awaits_of_some hr g tag).trans (Line.awaits_of_some hlr g tag).symm
  cases hx with
  | cut hp =>
    rw [State.cut_eq]
    have hheld : (s.holdBegun lr).Accounts s.slotOpens := State.Accounts.of_reads h (ha := hawaits (p := .hold) rfl)
    split
    · next x hx =>
      exact hl.delivered hx rfl rfl (v := s.holdBegun lr) rfl (fun _ => rfl) (fun _ => rfl) hheld .aborted nofun
    · next hx => exact hheld.owing (fun _ => rfl) fun g => (Line.drops_of_none rfl g).trans (Line.drops_of_none hx g).symm
  | held n hp => exact h.setLine (hawaits (p := .wait) rfl) fun _ => rfl
  | waited n hp => exact h.setLine (hawaits (p := .token) rfl) fun _ => rfl
  | sent hp =>
    obtain ⟨hq, -⟩ := hl.quiet_of_reset hlr (by simp [hp])
    exact h.resetAnswered (fun _ => rfl) (fun _ => rfl) hlr rfl hq.record rfl

/-! ### Takes (R122 to R127, R154) -/

/-- The request at the head of the queue leaves it (R154). -/
theorem State.Owing.taken (h : s.Owing) {g : HostId} {r : Request} {rest : List Request} (hq : (s.port g).queue = r :: rest) :
    (s.taken g rest).Accounts fun k tag => (s.taken g rest).slotOpens k tag + oneOpen g r.tag k tag := by
  intro k tag
  have hbefore := h k tag
  have hslot : (s.taken g rest).slotOpens k tag = s.slotOpens k tag := by
    refine State.slotOpens_congr (s := s) (t := s.taken g rest) ?_ rfl tag
    rw [State.taken, State.port_setPort]
    split
    · next hk => rw [hk]
    · rfl
  change ((s.taken g rest).port k).owed.count tag = ((s.taken g rest).port k).queues tag + s.opens k tag + s.line.awaits k tag +
    ((s.taken g rest).slotOpens k tag + oneOpen g r.tag k tag)
  rw [hslot, State.taken, State.port_setPort]
  split
  · next hk =>
    subst hk
    have hcount : (s.port k).queues tag = rest.countP (fun x => x.tag = tag) + oneOpen k r.tag k tag := by
      rw [Port.queues, hq, List.countP_cons]
      simp [oneOpen]
    rw [hcount] at hbefore
    change (s.port k).owed.count tag = rest.countP (fun x => x.tag = tag) + _ + _ + _
    omega
  · next hk =>
    rw [show oneOpen g r.tag k tag = 0 from if_neg fun hh => hk hh.1.symm]
    omega

theorem forgetRequest_owing {h : HostId} {r : Request} (ht : ∀ a, (s.entry a).Tidy)
    (k : s.Accounts fun g tag => s.slotOpens g tag + oneOpen h r.tag g tag) : (forgetRequest h r s).Owing := by
  unfold forgetRequest
  dsimp only
  split
  · have hrecalls : ((s.setRecalls (s.dir.recalls.filter fun x => x.uid ≠ bodyUid r)).bumpSerial).Accounts fun g tag =>
        s.slotOpens g tag + oneOpen h r.tag g tag := k.of_reads
    exact State.Owing.answered hrecalls
  · split
    · next a ha =>
      split
      · next hlost =>
        obtain ⟨hc, hd⟩ := (ht a).records (by simp [Entry.bound, hlost])
        have hfreed : (s.setEntry a (s.entry a).freed).Accounts fun g tag => s.slotOpens g tag + oneOpen h r.tag g tag :=
          k.setEntry fun g tag => by rw [Entry.opens_none hc hd, Entry.opens_none rfl rfl]
        have hwithin := (State.Within.refl s).setEntry (a := a) (e := (s.entry a).freed) |>.bumpSerial.wantIfParked
        have hsame (b : Addr) (g : HostId) (tag : Tag) :
            ((s.setEntry a (s.entry a).freed).bumpSerial.wantIfParked.entry b).opens g tag = ((s.setEntry a (s.entry a).freed).entry b).opens g tag := by
          unfold State.wantIfParked
          split <;> rfl
        generalize (s.setEntry a (s.entry a).freed).bumpSerial.wantIfParked = v at hwithin hsame ⊢
        have hslot (g : HostId) (tag : Tag) : v.slotOpens g tag = s.slotOpens g tag :=
          State.slotOpens_congr (congrArg Port.slot (hwithin.port g)) (congrArg (Line.drops · g) hwithin.line) tag
        refine State.Owing.notice (State.Owing.answered ((hfreed.of_reads hsame (fun g => congrArg Port.owed (hwithin.port g))
          (fun g => congrArg Port.queue (hwithin.port g)) fun g tag => congrArg (Line.awaits · g tag) hwithin.line).congr fun g tag => ?_)) _
        rw [hslot]
      · exact State.Owing.answered k
    · exact State.Owing.answered k

end

end Sys2Proof.Machine
end

section
/-! SUPPORT. The account of the owed tags over takes, exchanges, port resets and expiries (R90, R122 to R135, R151 to R164). -/

namespace Sys2Proof.Machine

set_option Elab.async false

open Sys2Proof

section
variable {s t u : State} {f : HostId → Tag → Nat} {h : HostId}

/-! ### Takes (R122 to R127, R154) -/

theorem State.slotOpens_answerClaim (s : State) (h : HostId) (r : Request) (o : ReplyOutcome) (b : ClaimBody) (g : HostId) (tag : Tag) :
    (s.answerClaim h r o b).slotOpens g tag = s.slotOpens g tag :=
  State.slotOpens_congr (s.answerClaim_slot h r o b g) (congrArg (Line.drops · g) (s.answerClaim_line h r o b)) tag

/-- What a take does to the account: `s` is the state with the request off its queue (R154). -/
theorem TakeEffect.owing {r : Request} (hx : TakeEffect s h r t) (ht : ∀ a, (s.entry a).Tidy)
    (k : s.Accounts fun g tag => s.slotOpens g tag + oneOpen h r.tag g tag) : t.Owing := by
  cases hx with
  | replied o b => exact State.Owing.answered k
  | repliedClaim o b => exact State.Owing.answeredClaim k
  | forgot => exact (forgetRequest_owing ht k).grant
  | claimed a lease o b hb hn =>
    have hclaim : (s.setClaim a { holder := h, expires := s.time + lease, waits := [] }).Accounts fun g tag =>
        s.slotOpens g tag + oneOpen h r.tag g tag := k.setEntry fun g tag => by
      simp only [Entry.opens, Entry.waitsOf, Entry.defersOf, hn]
      rfl
    exact State.Owing.answeredClaim hclaim
  | renewed a c lease o b hb hc =>
    have hclaim : (s.setClaim a { c with expires := s.time + lease }).Accounts fun g tag => s.slotOpens g tag + oneOpen h r.tag g tag :=
      k.setEntry fun g tag => by
        simp only [Entry.opens, Entry.waitsOf, Entry.defersOf, hc]
    exact State.Owing.answeredClaim hclaim
  | waits a c hb hc hne hw =>
    refine State.Accounts.owing (s := s) (k.setEntry fun g tag => ?_) (fun _ => rfl) fun _ => rfl
    simp only [Entry.opens, Entry.waitsOf, Entry.defersOf, hc, List.countP_append, List.countP_singleton, oneOpen, State.waitItem]
    simp only [decide_eq_true_eq]
    omega
  | handedOver a c o b ps hb hc hp =>
    have hover := k.handOver hc
    have hnotices (g : HostId) (tag : Tag) : repliesTo ps g tag = 0 := by
      rcases hp with rfl | ⟨n, rfl⟩ <;> rfl
    refine .of_postAll (ps := ps ++ (s.handOver a c.waits).2.1) ?_
    have hanswered : ((s.handOver a c.waits).1.answerClaim h r o b).Accounts fun g tag =>
        s.slotOpens g tag + repliesTo (s.handOver a c.waits).2.1 g tag :=
      State.Accounts.answerClaim (hover.congr fun g tag => by omega)
    refine hanswered.congr fun g tag => ?_
    rw [State.slotOpens_answerClaim, repliesTo_append, hnotices]
    change _ = s.slotOpens g tag + _
    omega
  | slotted l hs =>
    refine State.Owing.grant ((State.Accounts.setSlot k h _).congr fun g tag => ?_)
    by_cases hg : g = h
    · rw [hg, State.slotOpens_of_none hs, State.slotOpens_of_some (s.slot_setSlot h _)]
      simp only [Slot.opens, oneOpen, lineRequestOf, Bool.false_and, true_and, Nat.zero_add, Bool.false_eq_true, if_false]
      rfl
    · rw [State.slotOpens_setSlot_ne hg, oneOpen, if_neg fun hh => hg hh.1.symm, Nat.add_zero]
  | enumerated o b =>
    have hwoken : s.enumerated.Accounts fun g tag => s.slotOpens g tag + oneOpen h r.tag g tag := k.of_reads
    exact (State.Owing.answered hwoken).grant
  | subscribed m o b =>
    have hport (g : HostId) : ((s.setPort h { s.port h with mask := m }).port g).owed = (s.port g).owed ∧
        ((s.setPort h { s.port h with mask := m }).port g).queue = (s.port g).queue ∧
        ((s.setPort h { s.port h with mask := m }).port g).slot = (s.port g).slot := by
      rw [State.port_setPort]
      split
      · next hg => exact ⟨by rw [hg], by rw [hg], by rw [hg]⟩
      · exact ⟨rfl, rfl, rfl⟩
    have hmask : (s.setPort h { s.port h with mask := m }).Accounts fun g tag => s.slotOpens g tag + oneOpen h r.tag g tag :=
      k.of_reads (ho := fun g => (hport g).1) (hq := fun g => (hport g).2.1)
    refine State.Owing.answered (hmask.congr fun g tag => ?_)
    rw [State.slotOpens_congr (s := s) (t := s.setPort h { s.port h with mask := m }) (hport g).2.2 rfl]
  | lineReset => exact State.Owing.requestLineReset k

/-- A parameter's change reaches no open request (R9, R167). -/
theorem Configured.accounts (hx : Configured s t) (k : s.Accounts f) : t.Accounts f ∧ (∀ h, (t.port h).slot = (s.port h).slot) ∧
    ∀ h, t.line.drops h = s.line.drops h := by
  cases hx with
  | store g => exact ⟨k.of_reads, fun _ => rfl, fun _ => rfl⟩
  | sweep v => exact ⟨k.of_reads, fun _ => rfl, fun _ => rfl⟩
  | missLimit v hv =>
    have hentry (a : Addr) (g : HostId) (tag : Tag) :
        (((s.modConfig fun p => { p with missLimit := v }).applyMissLimit v).entry a).opens g tag = (s.entry a).opens g tag := by
      rw [State.applyMissLimit_entry]
      refine Entry.opens_congr ?_ ?_ g tag
      · change ((s.entry a).lowerMiss v).claim = _
        unfold Entry.lowerMiss
        split <;> rfl
      · exact ((s.entry a).lowerMiss_bound hv.1).2.2
    have hrest : ∃ d, (s.modConfig fun p => { p with missLimit := v }).applyMissLimit v =
        { s with config := { s.config with missLimit := v }, dir := d } := by
      unfold State.applyMissLimit
      dsimp only
      split <;> exact ⟨_, rfl⟩
    obtain ⟨d, hd⟩ := hrest
    rw [hd] at hentry ⊢
    exact ⟨k.of_reads (t := { s with config := { s.config with missLimit := v }, dir := d }) hentry, fun _ => rfl, fun _ => rfl⟩

/-! ### Exchanges (R151 to R161) -/

/-- A port is replaced with the difference accounted for. -/
theorem State.Accounts.setPort {f' : HostId → Tag → Nat} (k : s.Accounts f) {p : Port}
    (hp : ∀ tag, p.owed.count tag = p.queues tag + s.opens h tag + s.line.awaits h tag + f' h tag)
    (hf : ∀ g, g ≠ h → ∀ tag, f' g tag = f g tag) : (s.setPort h p).Accounts f' := by
  intro g tag
  change ((s.setPort h p).port g).owed.count tag = ((s.setPort h p).port g).queues tag + s.opens g tag + s.line.awaits g tag + f' g tag
  rw [State.port_setPort]
  split
  · next hg =>
    rw [hg]
    exact hp tag
  · next hg =>
    rw [hf g hg]
    exact k g tag

theorem State.slotOpens_setPort_ne {g : HostId} (hg : g ≠ h) (p : Port) (tag : Tag) : (s.setPort h p).slotOpens g tag = s.slotOpens g tag :=
  State.slotOpens_congr (congrArg Port.slot (s.port_setPort_ne hg p)) rfl tag

theorem State.slotOpens_setPort_self (p : Port) (hp : p.slot = (s.port h).slot) (tag : Tag) : (s.setPort h p).slotOpens h tag = s.slotOpens h tag :=
  State.slotOpens_congr ((congrArg Port.slot (s.port_setPort_same h p)).trans hp) rfl tag

/-- A port whose slot stays is replaced. -/
theorem State.Owing.setPort (k : s.Owing) {p : Port} (hs : p.slot = (s.port h).slot)
    (hp : ∀ tag, p.owed.count tag = p.queues tag + s.opens h tag + s.line.awaits h tag + s.slotOpens h tag) : (s.setPort h p).Owing :=
  State.Accounts.setPort k (fun tag => by rw [hp, State.slotOpens_setPort_self p hs]) fun g hg tag => State.slotOpens_setPort_ne hg p tag

/-- What the account does not read of a port changes. -/
theorem State.Owing.setPort_same (k : s.Owing) {p : Port} (hs : p.slot = (s.port h).slot) (ho : p.owed = (s.port h).owed)
    (hq : p.queue = (s.port h).queue) : (s.setPort h p).Owing :=
  k.setPort hs fun tag => by rw [ho, Port.queues, hq]; exact k h tag

theorem State.Owing.giveBack (k : s.Owing) {bs : List Byte} : (s.giveBack h bs).Owing := k.setPort_same rfl rfl rfl

theorem State.Owing.setHeld (k : s.Owing) {b : Bool} : (s.setHeld h b).Owing := k.setPort_same rfl rfl rfl

theorem State.Owing.accept (k : s.Owing) (r : Request) : (s.setPort h ((s.port h).accept r)).Owing := by
  refine k.setPort rfl fun tag => ?_
  have hbefore := k h tag
  simp only [Port.accept, Port.queues, List.count_append, List.countP_append, List.count_singleton, List.countP_singleton] at hbefore ⊢
  simp only [beq_iff_eq, decide_eq_true_eq]
  omega

/-- A CANCEL removes the one open request of its tag (R161). -/
theorem CancelEffect.owing {tag : Tag} (hx : CancelEffect s h tag t) (k : s.Owing) (hp : s.PortsWf) : t.Owing := by
  have hone : (s.port h).owed.count tag ≤ 1 := by
    obtain ⟨-, hnodup, -⟩ := hp h
    exact List.nodup_iff_count_le_one.1 hnodup tag
  have herase (x : Tag) : ((s.port h).owed.erase tag).count x = (s.port h).owed.count x - if x = tag then 1 else 0 := by
    split
    · next hx => rw [hx, List.count_erase_self]
    · next hx => rw [List.count_erase_of_ne hx, Nat.sub_zero]
  have hbefore := fun x => k h x
  cases hx with
  | queued hq =>
    refine k.setPort rfl fun x => ?_
    have hpos : 0 < (s.port h).queues tag := by
      obtain ⟨r, hr, hrt⟩ := hq
      exact List.countP_pos_iff.2 ⟨r, hr, by simpa using hrt⟩
    have hqueues : ((s.port h).queue.filter fun r => r.tag ≠ tag).countP (fun r => r.tag = x) =
        if x = tag then 0 else (s.port h).queues x := by
      simp only [Port.queues, List.countP_filter]
      split
      · next hx =>
        refine List.countP_eq_zero.2 fun r _ => ?_
        simp [hx]
      · next hx =>
        refine List.countP_congr fun r _ => ?_
        simp only [decide_eq_true_eq, Bool.and_eq_true, ne_eq, decide_not, Bool.not_eq_true', decide_eq_false_iff_not, and_iff_left_iff_imp]
        exact fun hr hrt => hx (hr ▸ hrt)
    change ((s.port h).owed.erase tag).count x = ((s.port h).queue.filter fun r => r.tag ≠ tag).countP (fun r => r.tag = x) + _ + _ + _
    rw [herase, hqueues]
    have hx := hbefore x
    have htag := hbefore tag
    split
    · next he =>
      subst he
      omega
    · omega
  | slotted r hs hrt =>
    refine State.Accounts.setPort k (fun x => ?_) fun g hg x => State.slotOpens_setPort_ne hg _ x
    have hslot (x : Tag) : s.slotOpens h x = if x = tag then 1 else 0 := by
      rw [State.slotOpens_of_some hs, Slot.opens, hrt]
      simp [eq_comm]
    have hnone : (s.setPort h ({ s.port h with slot := none }.unowe tag)).slotOpens h x = 0 :=
      State.slotOpens_of_none (congrArg Port.slot (s.port_setPort_same h _)) x
    rw [hnone]
    change ((s.port h).owed.erase tag).count x = (s.port h).queues x + _ + _ + 0
    have hx := hbefore x
    rw [hslot] at hx
    rw [herase]
    omega
  | waiting hw =>
    have hentry (a : Addr) : (s.mapEntries fun e => e.dropWait h tag).entry a = (s.entry a).dropWait h tag := State.entry_mapEntries ..
    have hdrop (e : Entry) (g : HostId) (x : Tag) : (e.dropWait h tag).opens g x =
        if g = h ∧ x = tag then e.defersOf g x else e.opens g x := by
      have hwaits : (e.dropWait h tag).waitsOf g x = if g = h ∧ x = tag then 0 else e.waitsOf g x := by
        unfold Entry.waitsOf Entry.dropWait
        cases e.claim with
        | none => simp
        | some c =>
          simp only [Option.map_some, List.countP_filter]
          split
          · next hg =>
            refine List.countP_eq_zero.2 fun w _ => ?_
            simp only [hg.1, hg.2]
            simp
          · next hg =>
            refine List.countP_congr fun w _ => ?_
            simp only [Bool.and_eq_true, decide_eq_true_eq, and_iff_left_iff_imp]
            rintro ⟨hwg, hwx⟩ ⟨hwh, hwt⟩
            exact hg ⟨hwg.symm.trans hwh, hwx.symm.trans hwt⟩
      rw [Entry.opens, hwaits]
      split
      · exact Nat.zero_add _
      · rfl
    have hopens (g : HostId) (x : Tag) (hg : ¬ (g = h ∧ x = tag)) : (s.mapEntries fun e => e.dropWait h tag).opens g x = s.opens g x :=
      State.opens_congr fun a => by rw [hentry, hdrop, if_neg hg]
    have hopened : 0 < ∑ a, (s.entry a).waitsOf h tag := by
      obtain ⟨a, ha⟩ := hw
      refine Finset.sum_pos' (fun _ _ => Nat.zero_le _) ⟨a, Finset.mem_univ a, ?_⟩
      unfold Entry.hasWait at ha
      unfold Entry.waitsOf
      cases hc : (s.entry a).claim with
      | none => simp [hc] at ha
      | some c =>
        rw [hc] at ha
        obtain ⟨w, hw, hwt⟩ := List.any_eq_true.1 ha
        exact List.countP_pos_iff.2 ⟨w, hw, by simpa using hwt⟩
    have hdropped : (s.mapEntries fun e => e.dropWait h tag).opens h tag + ∑ a, (s.entry a).waitsOf h tag = s.opens h tag := by
      rw [State.opens, State.opens, ← Finset.sum_add_distrib]
      refine Finset.sum_congr rfl fun a _ => ?_
      rw [hentry, hdrop, if_pos ⟨rfl, rfl⟩, Entry.opens]
      omega
    intro g x
    have hslot : ((s.mapEntries fun e => e.dropWait h tag).setPort h ((s.port h).unowe tag)).slotOpens g x = s.slotOpens g x := by
      by_cases hg : g = h
      · rw [hg]
        exact State.slotOpens_setPort_self (s := s.mapEntries fun e => e.dropWait h tag) (h := h) ((s.port h).unowe tag) rfl x
      · exact State.slotOpens_setPort_ne (s := s.mapEntries fun e => e.dropWait h tag) hg _ x
    rw [hslot]
    change (((s.mapEntries fun e => e.dropWait h tag).setPort h ((s.port h).unowe tag)).port g).owed.count x =
      (((s.mapEntries fun e => e.dropWait h tag).setPort h ((s.port h).unowe tag)).port g).queues x +
      (s.mapEntries fun e => e.dropWait h tag).opens g x + s.line.awaits g x + s.slotOpens g x
    rw [State.port_setPort]
    split
    · next hg =>
      subst hg
      change ((s.port g).owed.erase tag).count x = (s.port g).queues x + _ + _ + _
      rw [herase]
      have hx := hbefore x
      split
      · next he =>
        subst he
        omega
      · next he =>
        rw [hopens g x fun hh => he hh.2]
        exact hx
    · next hg =>
      rw [hopens g x fun hh => hg hh.1]
      exact k g x
  | nothing => exact k

/-! ### Port resets (R90, R116, R135, R163, R164) -/

/-- A port reset drops the host's own wait items and answers the others that its handover reaches (R124, R135). -/
theorem State.claimAfterReset_opens (s : State) (h : HostId) (a : Addr) (g : HostId) (tag : Tag) :
    if g = h then ({ s.entry a with claim := (s.claimAfterReset h a).1 } : Entry).waitsOf g tag = 0 ∧ repliesTo (s.claimAfterReset h a).2 g tag = 0
    else (s.entry a).waitsOf g tag =
      ({ s.entry a with claim := (s.claimAfterReset h a).1 } : Entry).waitsOf g tag + repliesTo (s.claimAfterReset h a).2 g tag := by
  cases hc : (s.entry a).claim with
  | none =>
    rw [State.claimAfterReset_none hc]
    simp [Entry.waitsOf, hc]
  | some c =>
    have hfilter : (c.waits.filter fun w => w.host ≠ h).countP (fun w => w.host = g ∧ w.tag = tag) =
        if g = h then 0 else (s.entry a).waitsOf g tag := by
      rw [List.countP_filter]
      split
      · next hg =>
        refine List.countP_eq_zero.2 fun w _ => ?_
        simp only [hg]
        simp +contextual
      · next hg =>
        simp only [Entry.waitsOf, hc]
        refine List.countP_congr fun w _ => ?_
        simp only [Bool.and_eq_true, decide_eq_true_eq, and_iff_left_iff_imp]
        rintro ⟨hwg, -⟩ hwh
        exact hg (hwg.symm.trans hwh)
    by_cases hh : c.holder = h
    · rw [State.claimAfterReset_held hc hh]
      have hnext := s.nextHolder_opens (c.waits.filter fun w => w.host ≠ h) (s.entry a) g tag
      rw [hfilter] at hnext
      by_cases hg : g = h
      · rw [if_pos hg] at hnext ⊢
        exact Nat.add_eq_zero_iff.1 hnext.symm
      · rw [if_neg hg] at hnext ⊢
        exact hnext
    · rw [State.claimAfterReset_other hc hh]
      by_cases hg : g = h
      · rw [if_pos hg] at hfilter ⊢
        exact ⟨hfilter, rfl⟩
      · rw [if_neg hg] at hfilter ⊢
        exact hfilter.symm

/-- A port reset leaves the host nothing open in the directory, and answers or keeps what others have there. -/
theorem State.portCleared_opens (s : State) (h : HostId) (g : HostId) (tag : Tag) :
    if g = h then (s.portCleared h).opens g tag = 0
    else s.opens g tag = (s.portCleared h).opens g tag + repliesTo (s.resetClaims h).2 g tag := by
  have hitems : repliesTo (s.resetClaims h).2 g tag = ∑ a, repliesTo (s.claimAfterReset h a).2 g tag := by
    rw [(s.resetClaims_eq h).1, repliesTo_flatMap_allAddrs]
  have hdefers (a : Addr) : ((s.portCleared h).entry a).defersOf g tag = if g = h then 0 else (s.entry a).defersOf g tag := by
    rw [s.portCleared_entry h a]
    unfold Entry.defersOf
    cases (s.entry a).deferred with
    | none => simp
    | some d =>
      simp only [Option.map_some]
      by_cases ho : d.owner = some h
      · by_cases hg : g = h
        · simp [ho, hg]
        · simp [ho, hg, Ne.symm hg]
      · by_cases hg : g = h
        · simp [ho, hg]
        · simp [ho, hg]
  have hwaits (a : Addr) : ((s.portCleared h).entry a).waitsOf g tag =
      ({ s.entry a with claim := (s.claimAfterReset h a).1 } : Entry).waitsOf g tag := by
    rw [s.portCleared_entry h a]
    rfl
  have hclaim := fun a => s.claimAfterReset_opens h a g tag
  by_cases hg : g = h
  · rw [if_pos hg]
    refine Finset.sum_eq_zero fun a _ => ?_
    have hnone := hclaim a
    rw [if_pos hg] at hnone
    rw [Entry.opens, hwaits, hnone.1, hdefers, if_pos hg, Nat.add_zero]
  · rw [if_neg hg, hitems, State.opens, State.opens, ← Finset.sum_add_distrib]
    refine Finset.sum_congr rfl fun a _ => ?_
    have hkept := hclaim a
    rw [if_neg hg] at hkept
    rw [Entry.opens, Entry.opens, hwaits, hdefers, if_neg hg, hkept]
    omega

theorem State.Owing.resetPort (k : s.Owing) (hl : s.DirectoryLaw) (h : HostId) : (s.resetPort h).Owing := by
  have hline := s.portCleared_line h
  have hself := s.portCleared_port_self h
  have hne := fun g (hg : g ≠ h) => s.portCleared_port_ne h hg
  have hopens := fun g tag => s.portCleared_opens h g tag
  have hother (g : HostId) (tag : Tag) (hg : g = h) : repliesTo (s.resetClaims h).2 g tag = 0 := by
    refine List.countP_eq_zero.2 fun p hp => ?_
    obtain ⟨x, y, kind, o, q, b, rfl, hx⟩ := s.resetClaims_items h p hp
    simp [Post.answers, hg, hx]
  have hawaits (g : HostId) (tag : Tag) : (s.portCleared h).line.awaits g tag = if g = h then 0 else s.line.awaits g tag := by
    rw [hline]
    unfold Line.awaits
    cases s.line.reset with
    | none => simp
    | some lr =>
      simp only [Option.map_some, List.countP_filter]
      split
      · next hg =>
        refine List.countP_eq_zero.2 fun q _ => ?_
        simp only [hg]
        simp +contextual
      · next hg =>
        refine List.countP_congr fun q _ => ?_
        simp only [Bool.and_eq_true, decide_eq_true_eq, and_iff_left_iff_imp]
        rintro ⟨hqg, -⟩ hqh
        exact hg (hqg.symm.trans hqh)
  have hslots (g : HostId) (tag : Tag) : (s.portCleared h).slotOpens g tag = if g = h then 0 else s.slotOpens g tag := by
    split
    · next hg =>
      subst hg
      cases hs : ((s.portCleared g).port g).slot with
      | none => exact State.slotOpens_of_none hs tag
      | some sl =>
        have hslot : (s.port g).slot = some sl ∧ sl.granted = true := by
          rw [hself] at hs
          exact Option.filter_eq_some_iff.1 hs
        obtain ⟨r, granted⟩ := sl
        obtain ⟨hslot, rfl⟩ := hslot
        obtain ⟨-, -, hgranted, -⟩ := hl.line
        obtain ⟨x, hx, ho⟩ := (hgranted g).1 ⟨r, hslot⟩
        have hdrops : (s.portCleared g).line.drops g = true := by
          rw [hline, Line.drops]
          simp [hx, ho]
        rw [State.slotOpens_of_some hs, hdrops]
        rfl
    · next hg =>
      refine State.slotOpens_congr (congrArg Port.slot (hne g hg)) ?_ tag
      rw [hline]
      unfold Line.drops
      cases s.line.record with
      | none => rfl
      | some x =>
        simp only [Option.map_some, Option.any_some]
        split
        · next ho => simp [ho, Ne.symm hg]
        · rfl
  rw [State.resetPort_eq]
  refine .of_postAll fun g tag => ?_
  change _ = _ + ((s.portCleared h).slotOpens g tag + repliesTo (s.resetClaims h).2 g tag)
  have hbefore := k g tag
  have ho := hopens g tag
  rw [hawaits, hslots]
  by_cases hg : g = h
  · rw [if_pos hg] at ho ⊢
    rw [ho, hother g tag hg, hg, hself, if_pos rfl]
    rfl
  · rw [if_neg hg] at ho ⊢
    rw [hne g hg, if_neg hg]
    omega

theorem ExchangeEffect.owing (hx : ExchangeEffect s h t) (k : s.Owing) (hl : s.DirectoryLaw) (hp : s.PortsWf) : t.Owing := by
  cases hx with
  | nothing => exact k
  | accepted r => exact k.accept r
  | fetched i rest =>
    refine k.setPort_same ?_ ?_ ?_ <;>
    · unfold Port.fetched
      split <;> rfl
  | cancelled tag => exact (s.cancelled_effect h tag).owing k hp
  | portReset => exact k.resetPort hl h

end

end Sys2Proof.Machine
end

section
/-! SUPPORT. The account of the owed tags over expiries and over every event (R11, R29, R110, R128, R129, R138, R157, R160, R175). -/

namespace Sys2Proof.Machine

set_option Elab.async false

open Sys2Proof

section
variable {s t : State} {a : Addr}

/-! ### Expiries (R11, R110, R128, R129, R138) -/

theorem State.Owing.endLease (h : s.Owing) (a : Addr) : (s.endLease a).Owing := by
  unfold State.endLease
  split
  · next c hc =>
    refine .of_postAll (State.Accounts.congr (State.Accounts.handOver h hc) fun g tag => ?_)
    rw [repliesTo_append, repliesTo_holderRevoked, Nat.zero_add]
    rfl
  · exact h

/-- With one item for each host, the item that runs out is the only one that its list loses (R119). -/
theorem WaitItem.countP_filter_ne {ws : List WaitItem} (hn : (ws.map fun w => w.host).Nodup) {h : HostId} {w : WaitItem}
    (hw : ws.find? (fun w => w.host == h) = some w) (g : HostId) (tag : Tag) :
    ws.countP (fun x => x.host = g ∧ x.tag = tag) =
      (ws.filter fun x => x.host ≠ h).countP (fun x => x.host = g ∧ x.tag = tag) + oneOpen h w.tag g tag := by
  induction ws with
  | nil => cases hw
  | cons x ws ih =>
    obtain ⟨hfresh, hrest⟩ := List.nodup_cons.1 hn
    by_cases hx : x.host = h
    · rw [List.find?_cons_of_pos (by simpa using hx)] at hw
      obtain rfl := Option.some.inj hw
      have hkept : ws.filter (fun y => y.host ≠ h) = ws :=
        List.filter_eq_self.2 fun y hy => by
          have hne : y.host ≠ h := fun he => hfresh (List.mem_map.2 ⟨y, hy, he.trans hx.symm⟩)
          simpa using hne
      rw [List.filter_cons_of_neg (by simpa using hx), hkept, List.countP_cons]
      simp [oneOpen, hx]
    · rw [List.find?_cons_of_neg (by simpa using hx)] at hw
      rw [List.filter_cons_of_pos (by simpa using hx), List.countP_cons, List.countP_cons, ih hrest hw]
      omega

theorem State.Owing.endWait (h : s.Owing) (hc : s.ClaimsWf) (a : Addr) (g : HostId) : (s.endWait a g).Owing := by
  unfold State.endWait
  split
  · next c hclaim =>
    split
    · next w hw =>
      obtain ⟨-, hnodup, -⟩ := hc a c hclaim
      have hcount := WaitItem.countP_filter_ne hnodup hw
      have hhost : w.host = g := by simpa using List.find?_some hw
      refine State.Owing.of_postAll (ps := [w.reply .waitExpired (.holder (some c.holder))]) (State.Accounts.setEntry h fun k tag => ?_)
      have hreply : repliesTo [w.reply .waitExpired (.holder (some c.holder))] k tag = oneOpen g w.tag k tag :=
        hhost ▸ repliesTo_one ..
      have hone := hcount k tag
      rw [hreply]
      simp only [Entry.opens, Entry.waitsOf, Entry.defersOf, hclaim]
      change _ = _ + (s.slotOpens k tag + oneOpen g w.tag k tag)
      omega
    · exact h
  · exact h

theorem State.Owing.sweepDue (h : s.Owing) : s.sweepDue.Owing := by
  unfold State.sweepDue
  dsimp only
  refine State.Owing.grant ?_
  split
  · exact h.of_reads
  · exact State.Owing.endIdlePass (State.Owing.of_reads h)

theorem ExpiryEffect.owing (hx : ExpiryEffect s t) (h : s.Owing) (hl : s.DirectoryLaw) (hc : s.ClaimsWf) : t.Owing := by
  cases hx with
  | quarantine a hs =>
    obtain ⟨hclaim, hdef⟩ := (hl.tidy a).records (by simp [Entry.bound, hs])
    rw [State.leaveQuarantine_eq]
    exact (h.settles (((State.settles_refl s).freeRecorded hclaim hdef).bumpSerial.items (qs := [.notice (.freed a true)]) fun _ _ => rfl)
      hl.tidy).grant
  | lease a => exact h.endLease a
  | wait a g => exact h.endWait hc a g
  | poll a =>
    unfold State.pollDueAt
    exact (h.setEntry ((s.entry a).opens_setPhase .due)).grant
  | sweep => exact h.sweepDue

/-! ### The end of a gap (R29, R50) -/

theorem State.Owing.gapEnd (h : s.Owing) : s.gapEnd.Owing := by
  cases hx : s.line.record with
  | some x =>
    rw [State.gapEnd_of_record hx]
    exact h.beginAttempt fun g => (Line.drops_of_some hx g).symm
  | none =>
    unfold State.gapEnd
    rw [hx]
    dsimp only
    split
    · unfold State.roundGapEnd
      split
      · have hended : ∀ how, (s.endRound how).Owing := fun _ => h.of_reads
        exact (hended _).grant
      · have hnext {f : Engine → Engine} : (s.modEngine f).Owing := h.of_reads
        exact hnext.sendRoundToken hx
    · exact h.grant

/-! ### Every event -/

/-- After power-on reset nothing is open and nothing owed (R169). -/
theorem State.powerOn_accounts (s : State) (straps : BitVec 4) :
    (s.powerOn straps).Accounts fun g tag => (s.powerOn straps).slotOpens g tag + ([] : List Requester).countP fun q => q.host = g ∧ q.tag = tag := by
  intro g tag
  have hopens : (s.powerOn straps).opens g tag = 0 :=
    Finset.sum_eq_zero fun a _ => by rw [State.powerOn_entry]; rfl
  have hport := State.powerOn_port s straps g
  have hslot : (s.powerOn straps).slotOpens g tag = 0 := State.slotOpens_of_none (by rw [hport]) tag
  change _ = _ + ((s.powerOn straps).slotOpens g tag + 0)
  rw [hopens, hslot, hport]
  rfl

theorem Event.owing {c : Instr} (he : Event s c t) (hl : s.DirectoryLaw) (hp : s.PortsWf) (hc : s.ClaimsWf) (h : s.Owing) : t.Owing := by
  have hbits (n : Nat) : (s.addBits n).Owing ∧ (s.addBits n).DirectoryLaw := ⟨h.of_reads, (State.Calm.refl s).addBits.law hl⟩
  cases he with
  | ignored => exact h
  | resetAsserted => exact h.of_reads
  | resetEnded straps => exact State.Owing.beginLineReset rfl (s.powerOn_accounts straps) _
  | exchanged c bytes hr hh hx => exact (hx.owing h hl hp).giveBack
  | pinFell c g => exact h.setHeld
  | portFell c g => exact (h.resetPort hl g).giveBack.setHeld
  | pinRose c g => exact h.setHeld
  | took c hq hx => exact hx.owing hl.tidy (h.taken hq.2)
  | configured o b hq hcode hm hx =>
    obtain ⟨hkept, hslot, hdrops⟩ := hx.accounts (h.taken hq.2)
    exact State.Owing.answered (hkept.congr fun g tag => by rw [State.slotOpens_congr (hslot g) (hdrops g)])
  | resetting c hr hlr hx => exact hx.owing h hl hlr
  | gapEnded c g =>
    have hended : (s.endGap g).Owing := h.of_reads
    exact hended.gapEnd
  | startSent c n => exact h.of_reads
  | onLine c n hr hcut hx he => exact he.owing (hbits n).1 (hbits n).2 hx (hl.reset_none hx hcut)
  | answerMissed c n hr hcut hx => exact (hbits n).1.answerJudged (hbits n).2 hx (hl.reset_none hx hcut) _
  | answerCame k bits n hr hcut hx => exact (hbits n).1.answerJudged (hbits n).2 hx (hl.reset_none hx hcut) _
  | joinReported c =>
    have hwanted : s.setWanted.Owing :=
      (State.Owing.settles h ((State.settles_refl s).setWanted) hl.tidy)
    unfold State.reportJoin
    dsimp only
    split
    · exact State.Owing.of_reads hwanted.grant
    · exact hwanted.grant
  | @expired c n t hr hn hx =>
    have hmoved : (s.elapseTo n).Owing := h.of_reads
    exact hx.owing hmoved ((State.Calm.refl s).elapseTo.law hl) hc

theorem State.tick_owing (h : s.Owing) : s.tick.Owing := by
  unfold State.tick
  split
  · exact h
  · exact h.of_reads

end

/-- Settles O56: an event keeps each law of the ports, of the claims and of the timers by itself, and with those of the directory
the account of the owed tags. -/
theorem portAndClaimLawsAreKept : Obligations.PortAndClaimLawsAreKept := by
  refine ⟨?_, ?_, ?_, ?_, ?_⟩
  · exact keptByStep_of_event (fun _ _ h => h) (fun _ _ _ he => he.lawful.ports) fun _ hd => (State.tick_lawful hd).ports
  · exact keptByStep_of_event (fun _ _ h => h) (fun _ _ _ he => he.lawful.held) fun _ hd => (State.tick_lawful hd).held
  · exact keptByStep_of_event (fun _ _ h => h) (fun _ _ _ he => he.lawful.claims) fun _ hd => (State.tick_lawful hd).claims
  · exact keptByStep_of_event (fun _ _ h => h) (fun _ _ _ he => he.lawful.timers) fun _ hd => (State.tick_lawful hd).timers
  · refine keptByStep_of_event (fun s rest hs => ?_) (fun s t c he hs => ?_) fun s hd hs => ?_
    · obtain ⟨hl, hp, hc, ho⟩ := hs
      exact ⟨{ hl with uids := hl.uids, line := hl.line, round := hl.round }, hp, hc, ho⟩
    · obtain ⟨hl, hp, hc, ho⟩ := hs
      have hpt := he.lawful.ports hp
      exact ⟨he.law hl, hpt, he.lawful.claims hc, (State.owedLaw_iff hpt).2 (he.owing hl hp hc ((State.owedLaw_iff hp).1 ho))⟩
    · obtain ⟨hl, hp, hc, ho⟩ := hs
      have hpt := (State.tick_lawful hd).ports hp
      exact ⟨hl.tick, hpt, (State.tick_lawful hd).claims hc, (State.owedLaw_iff hpt).2 (State.tick_owing ((State.owedLaw_iff hp).1 ho))⟩

end Sys2Proof.Machine
end

section
/-! SUPPORT. The claim requests CLAIM and RENEW, decided by the entry's record (R122, R123, R125). -/

namespace Sys2Proof.Machine

set_option Elab.async false

open Sys2Proof

section
variable {h : HostId} {r : Request} {rest : List Request} {s : State} {a : Addr} {c : Claim}

/-! ### The claim record at the take -/

/-- The take changes the port alone, so that a claim record may as well be replaced before it. -/
theorem State.taken_setClaim (s : State) (h : HostId) (rest : List Request) (a : Addr) (c : Claim) :
    (s.taken h rest).setClaim a c = (s.setClaim a c).taken h rest := rfl

theorem claimRequest_of_unclaimed (hcl : (s.entry a).claim = none) :
    claimRequest h a r s = (s.setClaim a { holder := h, expires := s.time + leaseField r, waits := [] }).answerClaim h r .granted
      (.granted (leaseField r) false) := by
  simp only [claimRequest, hcl]

theorem claimRequest_of_holder (hcl : (s.entry a).claim = some c) (hh : c.holder = h) : claimRequest h a r s =
    (s.setClaim a { c with expires := s.time + leaseField r }).answerClaim h r .granted (.granted (leaseField r) false) := by
  simp only [claimRequest, hcl, if_pos hh]

theorem claimRequest_of_other (hcl : (s.entry a).claim = some c) (hh : c.holder ≠ h) :
    claimRequest h a r s = claimHeld h a c r s := by
  simp only [claimRequest, hcl, if_neg hh]

theorem claimHeld_of_no_wait (hw : waitField r = 0) :
    claimHeld h a c r s = s.answerClaim h r .held (.holder (some c.holder)) := if_pos hw

/-- A host has at most one wait item on a record (R119, R123). -/
theorem claimHeld_of_second_wait (hw : waitField r ≠ 0) (hin : ∃ w ∈ c.waits, w.host = h) :
    claimHeld h a c r s = s.answerClaim h r .invalid .nothing :=
  (if_neg hw).trans (if_pos (by simpa using hin))

theorem claimHeld_of_first_wait (hw : waitField r ≠ 0) (hout : ∀ w ∈ c.waits, w.host ≠ h) :
    claimHeld h a c r s = s.setClaim a { c with waits := c.waits ++ [s.waitItem h r] } :=
  (if_neg hw).trans (if_neg (by simpa using hout))

theorem renewRequest_of_holder (hcl : (s.entry a).claim = some c) (hh : c.holder = h) : renewRequest h a r s =
    (s.setClaim a { c with expires := s.time + leaseField r }).answerClaim h r .done (.renewed (leaseField r)) := by
  simp only [renewRequest, hcl, if_pos hh]

theorem renewRequest_of_other (hcl : (s.entry a).claim = some c) (hh : c.holder ≠ h) :
    renewRequest h a r s = s.answerClaim h r .notHolder (.holder (some c.holder)) := by
  simp only [renewRequest, hcl, if_neg hh]

theorem renewRequest_of_unclaimed (hcl : (s.entry a).claim = none) :
    renewRequest h a r s = s.answerClaim h r .notHolder (.holder none) := by
  simp only [renewRequest, hcl]

/-! ### The checks of R121 passed -/

/-- A request that fits, with a current handle and a lease of 1 or more, is decided by its own rule (R121). -/
theorem shapedClaim_of_current {act : Addr → Request → State → State} (hf : bodyFits r.code r.body.length = true)
    (ha : addrNum a = (bodyHandle r).addr.toNat) (hb : (s.entry a).bound = true) (hg : (s.entry a).gen = (bodyHandle r).gen)
    (hlease : 1 ≤ leaseField r) : shapedClaim h (claimChecked h leaseOk act) r s = act a r s :=
  (shapedClaim_of_fits hf s).trans (claimChecked_of_current ha hb hg (decide_eq_true hlease))

end

/-- Settles O20: past the checks the entry's record decides: none, the asker's, or another host's, where the wait and the wait
list decide. -/
theorem claimDecidedByTheRecord : Obligations.ClaimDecidedByTheRecord := by
  intro h tag ha hg l1 l0 w1 w0 rest s a hq haddr hb hgen lease wait reply hlease
  let r : Request := ⟨0x05, tag, [ha, hg, l1, l0, w1, w0]⟩
  have hnum : addrNum a = (bodyHandle r).addr.toNat := by rw [← addrNum_addr8, ← haddr]; rfl
  have hreply (u : State) (o : ReplyOutcome) (b : ClaimBody) :=
    State.taken_answerClaim_of_two u h rest (r := r)
      (show (0x05 : Byte) ≠ codeRecalls by decide) (Nat.le_add_left 2 4) o b
  have hx : exec (.claim h) s = .next (claimRequest h a r (s.taken h rest)) :=
    (takeRequest_of_atHead hq rfl).trans (congrArg _ (shapedClaim_of_current rfl hnum hb hgen.symm hlease))
  rw [hx]
  refine ⟨fun hcl => ?_, fun c hcl => ⟨fun hh => ?_, fun hh hw => ?_, fun hh hw hin => ?_, fun hh hw hout => ?_⟩⟩
  · rw [claimRequest_of_unclaimed (s := s.taken h rest) hcl, State.taken_setClaim, hreply]
    rfl
  · rw [claimRequest_of_holder (s := s.taken h rest) hcl hh, State.taken_setClaim, hreply]
    rfl
  · rw [claimRequest_of_other (s := s.taken h rest) hcl hh, claimHeld_of_no_wait (r := r) hw, hreply]
    rfl
  · rw [claimRequest_of_other (s := s.taken h rest) hcl hh, claimHeld_of_second_wait (r := r) hw hin, hreply]
    rfl
  · rw [claimRequest_of_other (s := s.taken h rest) hcl hh, claimHeld_of_first_wait (r := r) hw hout, State.taken_setClaim]
    rfl

/-- Settles O21: past the checks only the record's holder has its lease begun anew. -/
theorem renewRestartsTheHoldersLease : Obligations.RenewRestartsTheHoldersLease := by
  intro h tag ha hg l1 l0 rest s a hq haddr hb hgen lease reply hlease
  let r : Request := ⟨0x06, tag, [ha, hg, l1, l0]⟩
  have hnum : addrNum a = (bodyHandle r).addr.toNat := by rw [← addrNum_addr8, ← haddr]; rfl
  have hreply (u : State) (o : ReplyOutcome) (b : ClaimBody) :=
    State.taken_answerClaim_of_two u h rest (r := r)
      (show (0x06 : Byte) ≠ codeRecalls by decide) (Nat.le_add_left 2 2) o b
  have hx : exec (.renew h) s = .next (renewRequest h a r (s.taken h rest)) :=
    (takeRequest_of_atHead hq rfl).trans (congrArg _ (shapedClaim_of_current rfl hnum hb hgen.symm hlease))
  rw [hx]
  refine ⟨fun c hcl hh => ?_, fun c hcl hh => ?_, fun hcl => ?_⟩
  · rw [renewRequest_of_holder (s := s.taken h rest) hcl hh, State.taken_setClaim, hreply]
    rfl
  · rw [renewRequest_of_other (s := s.taken h rest) hcl hh, hreply]
    rfl
  · rw [renewRequest_of_unclaimed (s := s.taken h rest) hcl, hreply]
    rfl

end Sys2Proof.Machine
end

section
/-! SUPPORT. The exchanges REQUEST (R153) and CANCEL (R161), each decided by the port's state as it stands. -/

namespace Sys2Proof.Machine

set_option Elab.async false

open Sys2Proof

section
variable {h : HostId} {code tag check : Byte} {body : List Byte} {s : State}

/-! ### REQUEST (R153) -/

/-- Any code but ACCEPTED leaves the port as it was, but for the code given back (R153). -/
theorem execRequest_of_refused (hr : s.inReset = false) (hh : (s.port h).held = false) {x : Byte}
    (hx : (s.port h).requestCode code tag body check = x) (hne : x ≠ xAccepted) :
    execRequest h code tag body check s = .next (s.setPort h { s.port h with hdo := [x] }) := by
  simp only [execRequest, exchange_of_taken hr hh, hx, if_neg hne]
  rfl

/-- ACCEPTED queues the request and owes its tag (R153). -/
theorem execRequest_of_accepted (hr : s.inReset = false) (hh : (s.port h).held = false)
    (hx : (s.port h).requestCode code tag body check = xAccepted) : execRequest h code tag body check s =
      .next (s.setPort h { (s.port h).accept ⟨code, tag, body⟩ with hdo := [xAccepted] }) := by
  simp only [execRequest, exchange_of_taken hr hh, hx, if_true, State.setPort_giveBack]

end

/-- Settles O7: the conditions stand in `Port.requestCode` in their order. -/
theorem requestDecidedByFirstCondition : Obligations.RequestDecidedByFirstCondition := by
  intro h code tag body check s hr hh
  change execRequest h code tag body check s = _
  dsimp only
  split_ifs with hbad hfull howed
  · exact execRequest_of_refused hr hh (if_pos hbad) (by decide)
  · exact execRequest_of_refused hr hh ((if_neg hbad).trans (if_pos hfull)) (by decide)
  · exact execRequest_of_refused hr hh ((if_neg hbad).trans ((if_neg hfull).trans (if_pos howed))) (by decide)
  · exact execRequest_of_accepted hr hh ((if_neg hbad).trans ((if_neg hfull).trans (if_neg howed)))

section
variable {h : HostId} {tag check : Byte} {s : State}

/-! ### Where a CANCEL looks for its tag (R161) -/

/-- The port's queue holds a request with the tag. -/
abbrev Port.Queues (p : Port) (tag : Tag) : Prop := ∃ r ∈ p.queue, r.tag = tag

/-- The port's slot holds a request with the tag that has not been granted. -/
abbrev Port.Slots (p : Port) (tag : Tag) : Prop := ∃ r, p.slot = some { req := r, granted := false } ∧ r.tag = tag

/-- Some entry's record holds a wait item of the host with the tag. -/
abbrev State.Waits (s : State) (h : HostId) (tag : Tag) : Prop :=
  ∃ a c, (s.entry a).claim = some c ∧ ∃ w ∈ c.waits, w.host = h ∧ w.tag = tag

/-- The port's outbound queue holds a reply with the tag. -/
abbrev Port.Replied (p : Port) (tag : Tag) : Prop := ∃ r, .reply r ∈ p.outbound ∧ r.tag = tag

theorem Port.queue_any_iff {p : Port} : (p.queue.any fun r => r.tag == tag) = true ↔ p.Queues tag := by
  simp [Port.Queues]

theorem Port.slotHolds_iff {p : Port} : p.slotHolds tag = true ↔ p.Slots tag := by
  unfold Port.slotHolds Port.Slots
  cases p.slot with
  | none => simp
  | some sl =>
    obtain ⟨r, granted⟩ := sl
    cases granted <;> simp

theorem Entry.hasWait_iff {e : Entry} :
    e.hasWait h tag = true ↔ ∃ c, e.claim = some c ∧ ∃ w ∈ c.waits, w.host = h ∧ w.tag = tag := by
  unfold Entry.hasWait
  cases e.claim <;> simp

theorem State.any_hasWait_iff : (allAddrs.any fun a => (s.entry a).hasWait h tag) = true ↔ s.Waits h tag := by
  simp [Entry.hasWait_iff]

theorem Item.repliesTo_iff {i : Item} : i.repliesTo tag = true ↔ ∃ r, i = .reply r ∧ r.tag = tag := by
  cases i <;> simp [Item.repliesTo]

theorem Port.outbound_any_iff {p : Port} : (p.outbound.any fun i => i.repliesTo tag) = true ↔ p.Replied tag := by
  simp [Item.repliesTo_iff, Port.Replied, and_comm]

/-! ### The first case that matches (R161) -/

theorem State.cancelCase_of_queued (hq : (s.port h).Queues tag) : s.cancelCase h tag = .queued :=
  if_pos (Port.queue_any_iff.2 hq)

theorem State.cancelCase_of_slotted (hq : ¬ (s.port h).Queues tag) (hs : (s.port h).Slots tag) : s.cancelCase h tag = .slotted :=
  (if_neg (Port.queue_any_iff.not.2 hq)).trans (if_pos (Port.slotHolds_iff.2 hs))

/-- Past the queue and the slot the wait lists are searched. -/
theorem State.cancelCase_of_waiting (hq : ¬ (s.port h).Queues tag) (hs : ¬ (s.port h).Slots tag) (hw : s.Waits h tag) :
    s.cancelCase h tag = .waiting := by
  rw [State.cancelCase, if_neg (Port.queue_any_iff.not.2 hq), if_neg (Port.slotHolds_iff.not.2 hs),
    if_pos (State.any_hasWait_iff.2 hw)]

/-- A tag found in none of the three is looked up among the owed tags, then among the replies. -/
theorem State.cancelCase_of_not_found (hq : ¬ (s.port h).Queues tag) (hs : ¬ (s.port h).Slots tag) (hw : ¬ s.Waits h tag) :
    s.cancelCase h tag = if tag ∈ (s.port h).owed then .owed
      else if (s.port h).outbound.any fun i => i.repliesTo tag then .replied else .unknown := by
  rw [State.cancelCase, if_neg (Port.queue_any_iff.not.2 hq), if_neg (Port.slotHolds_iff.not.2 hs),
    if_neg (State.any_hasWait_iff.not.2 hw)]

/-! ### What a CANCEL leaves (R161) -/

theorem exec_cancel_of_bad (hr : s.inReset = false) (hh : (s.port h).held = false) (hc : check ≠ crc8Bytes [tag]) :
    exec (.cancel h tag check) s = .next (s.setPort h { s.port h with hdo := [xMalformed] }) := by
  change execCancel h tag check s = _
  rw [execCancel, exchange_of_taken hr hh, if_pos hc]
  rfl

theorem exec_cancel_of_good (hr : s.inReset = false) (hh : (s.port h).held = false) (hc : check = crc8Bytes [tag]) :
    exec (.cancel h tag check) s = .next ((s.cancelled h tag).1.giveBack h [(s.cancelled h tag).2]) := by
  change execCancel h tag check s = _
  rw [execCancel, exchange_of_taken hr hh, if_neg (not_not.2 hc)]

/-- A request on its way or answered is TOO_LATE to cancel (R161). -/
theorem State.cancelled_of_late (hq : ¬ (s.port h).Queues tag) (hs : ¬ (s.port h).Slots tag) (hw : ¬ s.Waits h tag)
    (hlate : tag ∈ (s.port h).owed ∨ (s.port h).Replied tag) : s.cancelled h tag = (s, xTooLate) := by
  have hcase : s.cancelCase h tag = .owed ∨ s.cancelCase h tag = .replied := by
    rw [State.cancelCase_of_not_found hq hs hw]
    by_cases ho : tag ∈ (s.port h).owed
    · exact .inl (if_pos ho)
    · exact .inr ((if_neg ho).trans (if_pos (Port.outbound_any_iff.2 (hlate.resolve_left ho))))
  rcases hcase with hcase | hcase <;> simp only [State.cancelled, hcase]

/-- A tag found nowhere names no request (R161). -/
theorem State.cancelled_of_unknown (hq : ¬ (s.port h).Queues tag) (hs : ¬ (s.port h).Slots tag) (hw : ¬ s.Waits h tag)
    (ho : tag ∉ (s.port h).owed) (hn : ¬ (s.port h).Replied tag) : s.cancelled h tag = (s, xNoSuchTag) := by
  have hcase : s.cancelCase h tag = .unknown := by
    rw [State.cancelCase_of_not_found hq hs hw, if_neg ho, if_neg (Port.outbound_any_iff.not.2 hn)]
  simp only [State.cancelled, hcase]

end

/-- Settles O9: what is given back and removed by the first place that holds the tag. -/
theorem cancelDecidedByThePhaseItFinds : Obligations.CancelDecidedByThePhaseItFinds := by
  intro h tag check s hr hh p queued slotted waiting replied
  refine ⟨exec_cancel_of_bad hr hh, fun hc => ?_⟩
  rw [exec_cancel_of_good hr hh hc]
  refine ⟨fun hq => ?_, fun hq hs => ?_, fun hq hs hw => ?_, fun hq hs hw hlate => ?_, fun hq hs hw ho hn => ?_⟩
  · simp only [State.cancelled, State.cancelCase_of_queued hq, State.setPort_giveBack]
    rfl
  · simp only [State.cancelled, State.cancelCase_of_slotted hq hs, State.setPort_giveBack]
    rfl
  · simp only [State.cancelled, State.cancelCase_of_waiting hq hs hw, State.setPort_giveBack]
    rfl
  · rw [State.cancelled_of_late hq hs hw hlate]
    rfl
  · rw [State.cancelled_of_unknown hq hs hw ho hn]
    rfl

end Sys2Proof.Machine
end
